-- ==== Sys2Proof/Word.lean ====
section
/-! DEFINITION. The two word types of the core: the byte of the bus and of the 8-bit registers, and the 16-bit word of
addresses, register pairs, SP and PC (spec/00_scope.md R5, R6). -/

namespace Sys2Proof

/-- An 8-bit value (R5: general register width and bus data width). -/
abbrev Byte := BitVec 8

/-- A 16-bit value (R5: register-pair, SP, PC and address width). -/
abbrev Word := BitVec 16

end Sys2Proof
end

