-- ==== Sys2Proof/Config.lean ====
section
/-! DEFINITION. The parameters a model takes (spec/00_scope.md R5), each with the spec's default, and the byte sets the
spec defines them by. A machine holds its parameters in the field params of State (log entry 1). -/

namespace Sys2Proof

/-- DECODE_SET (R110, D1): which opcodes the decoder gives a leaf tag. -/
inductive DecodeSet where
  | full
  | documented
  deriving DecidableEq, Repr

/-- INVALID_POLICY (R306, D2): what executing an opcode that is no instruction does. -/
inductive InvalidPolicy where
  | fault
  | nop
  deriving DecidableEq, Repr

/-- COND_CYCLES (R136, D7): how a conditional transfer is charged. -/
inductive CondCycles where
  | perTag
  | perOutcome
  deriving DecidableEq, Repr

/-- REG_INIT (R38, D4): a power-on value for each of A, F, B, C, D, E, H, L and SP. -/
structure RegInit where
  a : Byte
  f : Byte
  b : Byte
  c : Byte
  d : Byte
  e : Byte
  h : Byte
  l : Byte
  sp : Word
  deriving DecidableEq, Repr

/-- The default REG_INIT: the Color post-boot values of the table of R38. -/
def RegInit.color : RegInit :=
  { a := 0x11, f := 0x80, b := 0x00, c := 0x00, d := 0xFF, e := 0x56, h := 0x00, l := 0x0D, sp := 0xFFFE }

/-- The monochrome alternative REG_INIT named under R38. -/
def RegInit.monochrome : RegInit :=
  { a := 0x01, f := 0xB0, b := 0x00, c := 0x13, d := 0x00, e := 0xD8, h := 0x01, l := 0x4D, sp := 0xFFFE }

/-- The default IO_BACKED: the rows of the table of R67, each an inclusive range of addresses. -/
def ioBackedDefault : List (Word × Word) :=
  [ (0xFF00, 0xFF00), (0xFF01, 0xFF02), (0xFF04, 0xFF07), (0xFF0F, 0xFF0F), (0xFF10, 0xFF26), (0xFF30, 0xFF3F),
    (0xFF40, 0xFF4B), (0xFF4F, 0xFF4F), (0xFF50, 0xFF50), (0xFF51, 0xFF55), (0xFF68, 0xFF6B), (0xFF70, 0xFF70) ]

/-- The parameters of R5 but for IMAGE, which is the argument of construction (Machine/Construct.lean). IO_BACKED is a
set of addresses given as a list of inclusive ranges. -/
structure Params where
  decodeSet : DecodeSet
  invalidPolicy : InvalidPolicy
  invalidCycles : Nat
  condCycles : CondCycles
  regInit : RegInit
  ioBacked : List (Word × Word)
  deriving DecidableEq, Repr

/-- The default of every parameter, as the table of R5 gives it. -/
def Params.default : Params :=
  { decodeSet := .full, invalidPolicy := .fault, invalidCycles := 1, condCycles := .perTag, regInit := RegInit.color,
    ioBacked := ioBackedDefault }

/-- R5: IO_BACKED is a set of addresses in 0xFF00-0xFF7F. -/
def Params.wf (p : Params) : Bool :=
  p.ioBacked.all fun r => decide (0xFF00 ≤ r.1.toNat) && decide (r.1.toNat ≤ r.2.toNat) && decide (r.2.toNat ≤ 0xFF7F)

/-- The 61 opcodes of the source's decode groups, group by group as the table of R110 lists them. -/
def documentedOpcodes : List Byte :=
  [0x06, 0x0E, 0x16, 0x1E, 0x26, 0x2E, 0x3E] ++
  [0x01, 0x11, 0x21, 0x31] ++
  [0x02, 0x12, 0x22, 0x32, 0x0A, 0x1A, 0x2A, 0x3A] ++
  [0x04, 0x0C, 0x14, 0x1C, 0x24, 0x2C, 0x34, 0x3C, 0x05, 0x0D, 0x15, 0x1D, 0x25, 0x2D, 0x35, 0x3D] ++
  [0x03, 0x13, 0x23, 0x33, 0x0B, 0x1B, 0x2B, 0x3B] ++
  [0x07, 0x0F, 0x17, 0x1F] ++
  [0x09, 0x19, 0x29, 0x39] ++
  [0x18, 0x20, 0x28, 0x30, 0x38, 0xC3] ++
  [0x00, 0x10, 0x76] ++
  [0xCB]

/-- The eleven primary bytes that are not instructions (R109). -/
def illegalOpcodes : List Byte :=
  [0xD3, 0xDB, 0xDD, 0xE3, 0xE4, 0xEB, 0xEC, 0xED, 0xF4, 0xFC, 0xFD]

/-- The code of a byte pair after the escape, 0xCB00 + op2 (R130, R306). -/
def cbCode (op2 : Byte) : Word := (0xCB : Byte) ++ op2

/-- The code of a primary byte (R130, R306). -/
def primaryCode (op : Byte) : Word := (0x00 : Byte) ++ op

end Sys2Proof
end

