-- ==== Sys2Proof/Syntax.lean ====
section
/-! DEFINITION. The instructions of the core: the small name types of the encoding fields, Instr with one constructor per
mnemonic of spec/opcode_table.json (the eleven INVALID rows are one constructor that carries the code), and one function
per field-indexed group that names its instructions by their fields. -/

namespace Sys2Proof

/-- The register names of the table r (R102), value 6 apart. -/
inductive Reg8 where
  | b
  | c
  | d
  | e
  | h
  | l
  | a
  deriving DecidableEq, Repr

/-- The operand of an 8-bit register field (R102): a register, or for the value 6 the byte at HL. -/
inductive Opnd8 where
  | reg (r : Reg8)
  | atHl
  deriving DecidableEq, Repr

/-- The table rp (R103). -/
inductive Reg16 where
  | bc
  | de
  | hl
  | sp
  deriving DecidableEq, Repr

/-- The table rp2 (R103). -/
inductive StackReg where
  | bc
  | de
  | hl
  | af
  deriving DecidableEq, Repr

/-- The conditions (R104). -/
inductive Cond where
  | nz
  | z
  | nc
  | c
  deriving DecidableEq, Repr

/-- The accumulator operations, in the order of the field ooo (R214). -/
inductive AluOp where
  | add
  | adc
  | sub
  | sbc
  | and
  | xor
  | or
  | cp
  deriving DecidableEq, Repr

/-- The CB rotate, shift and swap operations, in the order of the field y (R254). -/
inductive RotOp where
  | rlc
  | rrc
  | rl
  | rr
  | sla
  | sra
  | swap
  | srl
  deriving DecidableEq, Repr

/-- A value 0 to 7 of the field y used as a bit number or a restart number (R105). -/
inductive Idx8 where
  | i0
  | i1
  | i2
  | i3
  | i4
  | i5
  | i6
  | i7
  deriving DecidableEq, Repr

/-- The number of an index. -/
def Idx8.toNat : Idx8 → Nat
  | .i0 => 0
  | .i1 => 1
  | .i2 => 2
  | .i3 => 3
  | .i4 => 4
  | .i5 => 5
  | .i6 => 6
  | .i7 => 7

/-- The instructions, each with the operand R105 assembles from its operand bytes: first those that have one, then the rest,
each in the order of the maps of R107 and R108. The
constructor invalid is the tag Invalid with its code (R306), prefixCb is the escape (R305). -/
inductive Instr where
  | ldBcD16 (nn : Word)
  | ldBD8 (n : Byte)
  | ldAtA16Sp (nn : Word)
  | ldCD8 (n : Byte)
  | ldDeD16 (nn : Word)
  | ldDD8 (n : Byte)
  | jrE8 (e : Byte)
  | ldED8 (n : Byte)
  | jrNzE8 (e : Byte)
  | ldHlD16 (nn : Word)
  | ldHD8 (n : Byte)
  | jrZE8 (e : Byte)
  | ldLD8 (n : Byte)
  | jrNcE8 (e : Byte)
  | ldSpD16 (nn : Word)
  | ldAtHlD8 (n : Byte)
  | jrCE8 (e : Byte)
  | ldAD8 (n : Byte)
  | jpNzA16 (nn : Word)
  | jpA16 (nn : Word)
  | callNzA16 (nn : Word)
  | addAD8 (n : Byte)
  | jpZA16 (nn : Word)
  | callZA16 (nn : Word)
  | callA16 (nn : Word)
  | adcAD8 (n : Byte)
  | jpNcA16 (nn : Word)
  | invalid (code : Word)
  | callNcA16 (nn : Word)
  | subD8 (n : Byte)
  | jpCA16 (nn : Word)
  | callCA16 (nn : Word)
  | sbcAD8 (n : Byte)
  | ldhAtA8A (n : Byte)
  | andD8 (n : Byte)
  | addSpE8 (e : Byte)
  | ldAtA16A (nn : Word)
  | xorD8 (n : Byte)
  | ldhAAtA8 (n : Byte)
  | orD8 (n : Byte)
  | ldHlSpE8 (e : Byte)
  | ldAAtA16 (nn : Word)
  | cpD8 (n : Byte)
  | nop
  | ldAtBcA
  | incBc
  | incB
  | decB
  | rlca
  | addHlBc
  | ldAAtBc
  | decBc
  | incC
  | decC
  | rrca
  | stop
  | ldAtDeA
  | incDe
  | incD
  | decD
  | rla
  | addHlDe
  | ldAAtDe
  | decDe
  | incE
  | decE
  | rra
  | ldAtHlIncA
  | incHl
  | incH
  | decH
  | daa
  | addHlHl
  | ldAAtHlInc
  | decHl
  | incL
  | decL
  | cpl
  | ldAtHlDecA
  | incSp
  | incAtHl
  | decAtHl
  | scf
  | addHlSp
  | ldAAtHlDec
  | decSp
  | incA
  | decA
  | ccf
  | ldBB
  | ldBC
  | ldBD
  | ldBE
  | ldBH
  | ldBL
  | ldBAtHl
  | ldBA
  | ldCB
  | ldCC
  | ldCD
  | ldCE
  | ldCH
  | ldCL
  | ldCAtHl
  | ldCA
  | ldDB
  | ldDC
  | ldDD
  | ldDE
  | ldDH
  | ldDL
  | ldDAtHl
  | ldDA
  | ldEB
  | ldEC
  | ldED
  | ldEE
  | ldEH
  | ldEL
  | ldEAtHl
  | ldEA
  | ldHB
  | ldHC
  | ldHD
  | ldHE
  | ldHH
  | ldHL
  | ldHAtHl
  | ldHA
  | ldLB
  | ldLC
  | ldLD
  | ldLE
  | ldLH
  | ldLL
  | ldLAtHl
  | ldLA
  | ldAtHlB
  | ldAtHlC
  | ldAtHlD
  | ldAtHlE
  | ldAtHlH
  | ldAtHlL
  | halt
  | ldAtHlA
  | ldAB
  | ldAC
  | ldAD
  | ldAE
  | ldAH
  | ldAL
  | ldAAtHl
  | ldAA
  | addAB
  | addAC
  | addAD
  | addAE
  | addAH
  | addAL
  | addAAtHl
  | addAA
  | adcAB
  | adcAC
  | adcAD
  | adcAE
  | adcAH
  | adcAL
  | adcAAtHl
  | adcAA
  | subB
  | subC
  | subD
  | subE
  | subH
  | subL
  | subAtHl
  | subA
  | sbcAB
  | sbcAC
  | sbcAD
  | sbcAE
  | sbcAH
  | sbcAL
  | sbcAAtHl
  | sbcAA
  | andB
  | andC
  | andD
  | andE
  | andH
  | andL
  | andAtHl
  | andA
  | xorB
  | xorC
  | xorD
  | xorE
  | xorH
  | xorL
  | xorAtHl
  | xorA
  | orB
  | orC
  | orD
  | orE
  | orH
  | orL
  | orAtHl
  | orA
  | cpB
  | cpC
  | cpD
  | cpE
  | cpH
  | cpL
  | cpAtHl
  | cpA
  | retNz
  | popBc
  | pushBc
  | rst00
  | retZ
  | ret
  | prefixCb
  | rst08
  | retNc
  | popDe
  | pushDe
  | rst10
  | retC
  | reti
  | rst18
  | popHl
  | ldAtCA
  | pushHl
  | rst20
  | jpHl
  | rst28
  | popAf
  | ldAAtC
  | di
  | pushAf
  | rst30
  | ldSpHl
  | ei
  | rst38
  | rlcB
  | rlcC
  | rlcD
  | rlcE
  | rlcH
  | rlcL
  | rlcAtHl
  | rlcA
  | rrcB
  | rrcC
  | rrcD
  | rrcE
  | rrcH
  | rrcL
  | rrcAtHl
  | rrcA
  | rlB
  | rlC
  | rlD
  | rlE
  | rlH
  | rlL
  | rlAtHl
  | rlA
  | rrB
  | rrC
  | rrD
  | rrE
  | rrH
  | rrL
  | rrAtHl
  | rrA
  | slaB
  | slaC
  | slaD
  | slaE
  | slaH
  | slaL
  | slaAtHl
  | slaA
  | sraB
  | sraC
  | sraD
  | sraE
  | sraH
  | sraL
  | sraAtHl
  | sraA
  | swapB
  | swapC
  | swapD
  | swapE
  | swapH
  | swapL
  | swapAtHl
  | swapA
  | srlB
  | srlC
  | srlD
  | srlE
  | srlH
  | srlL
  | srlAtHl
  | srlA
  | bit0B
  | bit0C
  | bit0D
  | bit0E
  | bit0H
  | bit0L
  | bit0AtHl
  | bit0A
  | bit1B
  | bit1C
  | bit1D
  | bit1E
  | bit1H
  | bit1L
  | bit1AtHl
  | bit1A
  | bit2B
  | bit2C
  | bit2D
  | bit2E
  | bit2H
  | bit2L
  | bit2AtHl
  | bit2A
  | bit3B
  | bit3C
  | bit3D
  | bit3E
  | bit3H
  | bit3L
  | bit3AtHl
  | bit3A
  | bit4B
  | bit4C
  | bit4D
  | bit4E
  | bit4H
  | bit4L
  | bit4AtHl
  | bit4A
  | bit5B
  | bit5C
  | bit5D
  | bit5E
  | bit5H
  | bit5L
  | bit5AtHl
  | bit5A
  | bit6B
  | bit6C
  | bit6D
  | bit6E
  | bit6H
  | bit6L
  | bit6AtHl
  | bit6A
  | bit7B
  | bit7C
  | bit7D
  | bit7E
  | bit7H
  | bit7L
  | bit7AtHl
  | bit7A
  | res0B
  | res0C
  | res0D
  | res0E
  | res0H
  | res0L
  | res0AtHl
  | res0A
  | res1B
  | res1C
  | res1D
  | res1E
  | res1H
  | res1L
  | res1AtHl
  | res1A
  | res2B
  | res2C
  | res2D
  | res2E
  | res2H
  | res2L
  | res2AtHl
  | res2A
  | res3B
  | res3C
  | res3D
  | res3E
  | res3H
  | res3L
  | res3AtHl
  | res3A
  | res4B
  | res4C
  | res4D
  | res4E
  | res4H
  | res4L
  | res4AtHl
  | res4A
  | res5B
  | res5C
  | res5D
  | res5E
  | res5H
  | res5L
  | res5AtHl
  | res5A
  | res6B
  | res6C
  | res6D
  | res6E
  | res6H
  | res6L
  | res6AtHl
  | res6A
  | res7B
  | res7C
  | res7D
  | res7E
  | res7H
  | res7L
  | res7AtHl
  | res7A
  | set0B
  | set0C
  | set0D
  | set0E
  | set0H
  | set0L
  | set0AtHl
  | set0A
  | set1B
  | set1C
  | set1D
  | set1E
  | set1H
  | set1L
  | set1AtHl
  | set1A
  | set2B
  | set2C
  | set2D
  | set2E
  | set2H
  | set2L
  | set2AtHl
  | set2A
  | set3B
  | set3C
  | set3D
  | set3E
  | set3H
  | set3L
  | set3AtHl
  | set3A
  | set4B
  | set4C
  | set4D
  | set4E
  | set4H
  | set4L
  | set4AtHl
  | set4A
  | set5B
  | set5C
  | set5D
  | set5E
  | set5H
  | set5L
  | set5AtHl
  | set5A
  | set6B
  | set6C
  | set6D
  | set6E
  | set6H
  | set6L
  | set6AtHl
  | set6A
  | set7B
  | set7C
  | set7D
  | set7E
  | set7H
  | set7L
  | set7AtHl
  | set7A
  deriving DecidableEq, Repr

/-- LD r,d8 and LD (HL),d8 (R160, R161). -/
def Instr.ofLdImm8 (o : Opnd8) (n : Byte) : Instr :=
  match o with
  | .reg .b => .ldBD8 n
  | .reg .c => .ldCD8 n
  | .reg .d => .ldDD8 n
  | .reg .e => .ldED8 n
  | .reg .h => .ldHD8 n
  | .reg .l => .ldLD8 n
  | .atHl => .ldAtHlD8 n
  | .reg .a => .ldAD8 n

/-- LD r,r' (R168). -/
def Instr.ofLdReg (dst : Reg8) (src : Reg8) : Instr :=
  match dst, src with
  | .b, .b => .ldBB
  | .b, .c => .ldBC
  | .b, .d => .ldBD
  | .b, .e => .ldBE
  | .b, .h => .ldBH
  | .b, .l => .ldBL
  | .b, .a => .ldBA
  | .c, .b => .ldCB
  | .c, .c => .ldCC
  | .c, .d => .ldCD
  | .c, .e => .ldCE
  | .c, .h => .ldCH
  | .c, .l => .ldCL
  | .c, .a => .ldCA
  | .d, .b => .ldDB
  | .d, .c => .ldDC
  | .d, .d => .ldDD
  | .d, .e => .ldDE
  | .d, .h => .ldDH
  | .d, .l => .ldDL
  | .d, .a => .ldDA
  | .e, .b => .ldEB
  | .e, .c => .ldEC
  | .e, .d => .ldED
  | .e, .e => .ldEE
  | .e, .h => .ldEH
  | .e, .l => .ldEL
  | .e, .a => .ldEA
  | .h, .b => .ldHB
  | .h, .c => .ldHC
  | .h, .d => .ldHD
  | .h, .e => .ldHE
  | .h, .h => .ldHH
  | .h, .l => .ldHL
  | .h, .a => .ldHA
  | .l, .b => .ldLB
  | .l, .c => .ldLC
  | .l, .d => .ldLD
  | .l, .e => .ldLE
  | .l, .h => .ldLH
  | .l, .l => .ldLL
  | .l, .a => .ldLA
  | .a, .b => .ldAB
  | .a, .c => .ldAC
  | .a, .d => .ldAD
  | .a, .e => .ldAE
  | .a, .h => .ldAH
  | .a, .l => .ldAL
  | .a, .a => .ldAA

/-- LD r,(HL) (R169). -/
def Instr.ofLdFromHl (dst : Reg8) : Instr :=
  match dst with
  | .b => .ldBAtHl
  | .c => .ldCAtHl
  | .d => .ldDAtHl
  | .e => .ldEAtHl
  | .h => .ldHAtHl
  | .l => .ldLAtHl
  | .a => .ldAAtHl

/-- LD (HL),r (R170). -/
def Instr.ofLdToHl (r : Reg8) : Instr :=
  match r with
  | .b => .ldAtHlB
  | .c => .ldAtHlC
  | .d => .ldAtHlD
  | .e => .ldAtHlE
  | .h => .ldAtHlH
  | .l => .ldAtHlL
  | .a => .ldAtHlA

/-- INC r and INC (HL) (R210, R211). -/
def Instr.ofInc (o : Opnd8) : Instr :=
  match o with
  | .reg .b => .incB
  | .reg .c => .incC
  | .reg .d => .incD
  | .reg .e => .incE
  | .reg .h => .incH
  | .reg .l => .incL
  | .atHl => .incAtHl
  | .reg .a => .incA

/-- DEC r and DEC (HL) (R212, R213). -/
def Instr.ofDec (o : Opnd8) : Instr :=
  match o with
  | .reg .b => .decB
  | .reg .c => .decC
  | .reg .d => .decD
  | .reg .e => .decE
  | .reg .h => .decH
  | .reg .l => .decL
  | .atHl => .decAtHl
  | .reg .a => .decA

/-- The register and (HL) forms of the accumulator operations (R214). -/
def Instr.ofAlu (op : AluOp) (o : Opnd8) : Instr :=
  match op, o with
  | .add, .reg .b => .addAB
  | .add, .reg .c => .addAC
  | .add, .reg .d => .addAD
  | .add, .reg .e => .addAE
  | .add, .reg .h => .addAH
  | .add, .reg .l => .addAL
  | .add, .atHl => .addAAtHl
  | .add, .reg .a => .addAA
  | .adc, .reg .b => .adcAB
  | .adc, .reg .c => .adcAC
  | .adc, .reg .d => .adcAD
  | .adc, .reg .e => .adcAE
  | .adc, .reg .h => .adcAH
  | .adc, .reg .l => .adcAL
  | .adc, .atHl => .adcAAtHl
  | .adc, .reg .a => .adcAA
  | .sub, .reg .b => .subB
  | .sub, .reg .c => .subC
  | .sub, .reg .d => .subD
  | .sub, .reg .e => .subE
  | .sub, .reg .h => .subH
  | .sub, .reg .l => .subL
  | .sub, .atHl => .subAtHl
  | .sub, .reg .a => .subA
  | .sbc, .reg .b => .sbcAB
  | .sbc, .reg .c => .sbcAC
  | .sbc, .reg .d => .sbcAD
  | .sbc, .reg .e => .sbcAE
  | .sbc, .reg .h => .sbcAH
  | .sbc, .reg .l => .sbcAL
  | .sbc, .atHl => .sbcAAtHl
  | .sbc, .reg .a => .sbcAA
  | .and, .reg .b => .andB
  | .and, .reg .c => .andC
  | .and, .reg .d => .andD
  | .and, .reg .e => .andE
  | .and, .reg .h => .andH
  | .and, .reg .l => .andL
  | .and, .atHl => .andAtHl
  | .and, .reg .a => .andA
  | .xor, .reg .b => .xorB
  | .xor, .reg .c => .xorC
  | .xor, .reg .d => .xorD
  | .xor, .reg .e => .xorE
  | .xor, .reg .h => .xorH
  | .xor, .reg .l => .xorL
  | .xor, .atHl => .xorAtHl
  | .xor, .reg .a => .xorA
  | .or, .reg .b => .orB
  | .or, .reg .c => .orC
  | .or, .reg .d => .orD
  | .or, .reg .e => .orE
  | .or, .reg .h => .orH
  | .or, .reg .l => .orL
  | .or, .atHl => .orAtHl
  | .or, .reg .a => .orA
  | .cp, .reg .b => .cpB
  | .cp, .reg .c => .cpC
  | .cp, .reg .d => .cpD
  | .cp, .reg .e => .cpE
  | .cp, .reg .h => .cpH
  | .cp, .reg .l => .cpL
  | .cp, .atHl => .cpAtHl
  | .cp, .reg .a => .cpA

/-- The immediate forms of the accumulator operations (R214). -/
def Instr.ofAluImm (op : AluOp) (n : Byte) : Instr :=
  match op with
  | .add => .addAD8 n
  | .adc => .adcAD8 n
  | .sub => .subD8 n
  | .sbc => .sbcAD8 n
  | .and => .andD8 n
  | .xor => .xorD8 n
  | .or => .orD8 n
  | .cp => .cpD8 n

/-- LD rr,d16 (R190). -/
def Instr.ofLdImm16 (r : Reg16) (nn : Word) : Instr :=
  match r with
  | .bc => .ldBcD16 nn
  | .de => .ldDeD16 nn
  | .hl => .ldHlD16 nn
  | .sp => .ldSpD16 nn

/-- INC rr (R240). -/
def Instr.ofInc16 (r : Reg16) : Instr :=
  match r with
  | .bc => .incBc
  | .de => .incDe
  | .hl => .incHl
  | .sp => .incSp

/-- DEC rr (R241). -/
def Instr.ofDec16 (r : Reg16) : Instr :=
  match r with
  | .bc => .decBc
  | .de => .decDe
  | .hl => .decHl
  | .sp => .decSp

/-- ADD HL,rr (R242). -/
def Instr.ofAddHl (r : Reg16) : Instr :=
  match r with
  | .bc => .addHlBc
  | .de => .addHlDe
  | .hl => .addHlHl
  | .sp => .addHlSp

/-- PUSH rr (R194). -/
def Instr.ofPush (r : StackReg) : Instr :=
  match r with
  | .bc => .pushBc
  | .de => .pushDe
  | .hl => .pushHl
  | .af => .pushAf

/-- POP rr and POP AF (R195, R196). -/
def Instr.ofPop (r : StackReg) : Instr :=
  match r with
  | .bc => .popBc
  | .de => .popDe
  | .hl => .popHl
  | .af => .popAf

/-- JR cc,e8 (R282). -/
def Instr.ofJrCc (cc : Cond) (e : Byte) : Instr :=
  match cc with
  | .nz => .jrNzE8 e
  | .z => .jrZE8 e
  | .nc => .jrNcE8 e
  | .c => .jrCE8 e

/-- JP cc,a16 (R284). -/
def Instr.ofJpCc (cc : Cond) (nn : Word) : Instr :=
  match cc with
  | .nz => .jpNzA16 nn
  | .z => .jpZA16 nn
  | .nc => .jpNcA16 nn
  | .c => .jpCA16 nn

/-- CALL cc,a16 (R287). -/
def Instr.ofCallCc (cc : Cond) (nn : Word) : Instr :=
  match cc with
  | .nz => .callNzA16 nn
  | .z => .callZA16 nn
  | .nc => .callNcA16 nn
  | .c => .callCA16 nn

/-- RET cc (R289). -/
def Instr.ofRetCc (cc : Cond) : Instr :=
  match cc with
  | .nz => .retNz
  | .z => .retZ
  | .nc => .retNc
  | .c => .retC

/-- RST n with n = y * 8 (R291). -/
def Instr.ofRst (y : Idx8) : Instr :=
  match y with
  | .i0 => .rst00
  | .i1 => .rst08
  | .i2 => .rst10
  | .i3 => .rst18
  | .i4 => .rst20
  | .i5 => .rst28
  | .i6 => .rst30
  | .i7 => .rst38

/-- The CB rotate, shift and swap group (R254). -/
def Instr.ofRot (op : RotOp) (o : Opnd8) : Instr :=
  match op, o with
  | .rlc, .reg .b => .rlcB
  | .rlc, .reg .c => .rlcC
  | .rlc, .reg .d => .rlcD
  | .rlc, .reg .e => .rlcE
  | .rlc, .reg .h => .rlcH
  | .rlc, .reg .l => .rlcL
  | .rlc, .atHl => .rlcAtHl
  | .rlc, .reg .a => .rlcA
  | .rrc, .reg .b => .rrcB
  | .rrc, .reg .c => .rrcC
  | .rrc, .reg .d => .rrcD
  | .rrc, .reg .e => .rrcE
  | .rrc, .reg .h => .rrcH
  | .rrc, .reg .l => .rrcL
  | .rrc, .atHl => .rrcAtHl
  | .rrc, .reg .a => .rrcA
  | .rl, .reg .b => .rlB
  | .rl, .reg .c => .rlC
  | .rl, .reg .d => .rlD
  | .rl, .reg .e => .rlE
  | .rl, .reg .h => .rlH
  | .rl, .reg .l => .rlL
  | .rl, .atHl => .rlAtHl
  | .rl, .reg .a => .rlA
  | .rr, .reg .b => .rrB
  | .rr, .reg .c => .rrC
  | .rr, .reg .d => .rrD
  | .rr, .reg .e => .rrE
  | .rr, .reg .h => .rrH
  | .rr, .reg .l => .rrL
  | .rr, .atHl => .rrAtHl
  | .rr, .reg .a => .rrA
  | .sla, .reg .b => .slaB
  | .sla, .reg .c => .slaC
  | .sla, .reg .d => .slaD
  | .sla, .reg .e => .slaE
  | .sla, .reg .h => .slaH
  | .sla, .reg .l => .slaL
  | .sla, .atHl => .slaAtHl
  | .sla, .reg .a => .slaA
  | .sra, .reg .b => .sraB
  | .sra, .reg .c => .sraC
  | .sra, .reg .d => .sraD
  | .sra, .reg .e => .sraE
  | .sra, .reg .h => .sraH
  | .sra, .reg .l => .sraL
  | .sra, .atHl => .sraAtHl
  | .sra, .reg .a => .sraA
  | .swap, .reg .b => .swapB
  | .swap, .reg .c => .swapC
  | .swap, .reg .d => .swapD
  | .swap, .reg .e => .swapE
  | .swap, .reg .h => .swapH
  | .swap, .reg .l => .swapL
  | .swap, .atHl => .swapAtHl
  | .swap, .reg .a => .swapA
  | .srl, .reg .b => .srlB
  | .srl, .reg .c => .srlC
  | .srl, .reg .d => .srlD
  | .srl, .reg .e => .srlE
  | .srl, .reg .h => .srlH
  | .srl, .reg .l => .srlL
  | .srl, .atHl => .srlAtHl
  | .srl, .reg .a => .srlA

/-- BIT b,r and BIT b,(HL) (R270). -/
def Instr.ofBit (b : Idx8) (o : Opnd8) : Instr :=
  match b, o with
  | .i0, .reg .b => .bit0B
  | .i0, .reg .c => .bit0C
  | .i0, .reg .d => .bit0D
  | .i0, .reg .e => .bit0E
  | .i0, .reg .h => .bit0H
  | .i0, .reg .l => .bit0L
  | .i0, .atHl => .bit0AtHl
  | .i0, .reg .a => .bit0A
  | .i1, .reg .b => .bit1B
  | .i1, .reg .c => .bit1C
  | .i1, .reg .d => .bit1D
  | .i1, .reg .e => .bit1E
  | .i1, .reg .h => .bit1H
  | .i1, .reg .l => .bit1L
  | .i1, .atHl => .bit1AtHl
  | .i1, .reg .a => .bit1A
  | .i2, .reg .b => .bit2B
  | .i2, .reg .c => .bit2C
  | .i2, .reg .d => .bit2D
  | .i2, .reg .e => .bit2E
  | .i2, .reg .h => .bit2H
  | .i2, .reg .l => .bit2L
  | .i2, .atHl => .bit2AtHl
  | .i2, .reg .a => .bit2A
  | .i3, .reg .b => .bit3B
  | .i3, .reg .c => .bit3C
  | .i3, .reg .d => .bit3D
  | .i3, .reg .e => .bit3E
  | .i3, .reg .h => .bit3H
  | .i3, .reg .l => .bit3L
  | .i3, .atHl => .bit3AtHl
  | .i3, .reg .a => .bit3A
  | .i4, .reg .b => .bit4B
  | .i4, .reg .c => .bit4C
  | .i4, .reg .d => .bit4D
  | .i4, .reg .e => .bit4E
  | .i4, .reg .h => .bit4H
  | .i4, .reg .l => .bit4L
  | .i4, .atHl => .bit4AtHl
  | .i4, .reg .a => .bit4A
  | .i5, .reg .b => .bit5B
  | .i5, .reg .c => .bit5C
  | .i5, .reg .d => .bit5D
  | .i5, .reg .e => .bit5E
  | .i5, .reg .h => .bit5H
  | .i5, .reg .l => .bit5L
  | .i5, .atHl => .bit5AtHl
  | .i5, .reg .a => .bit5A
  | .i6, .reg .b => .bit6B
  | .i6, .reg .c => .bit6C
  | .i6, .reg .d => .bit6D
  | .i6, .reg .e => .bit6E
  | .i6, .reg .h => .bit6H
  | .i6, .reg .l => .bit6L
  | .i6, .atHl => .bit6AtHl
  | .i6, .reg .a => .bit6A
  | .i7, .reg .b => .bit7B
  | .i7, .reg .c => .bit7C
  | .i7, .reg .d => .bit7D
  | .i7, .reg .e => .bit7E
  | .i7, .reg .h => .bit7H
  | .i7, .reg .l => .bit7L
  | .i7, .atHl => .bit7AtHl
  | .i7, .reg .a => .bit7A

/-- RES b,r and RES b,(HL) (R271). -/
def Instr.ofRes (b : Idx8) (o : Opnd8) : Instr :=
  match b, o with
  | .i0, .reg .b => .res0B
  | .i0, .reg .c => .res0C
  | .i0, .reg .d => .res0D
  | .i0, .reg .e => .res0E
  | .i0, .reg .h => .res0H
  | .i0, .reg .l => .res0L
  | .i0, .atHl => .res0AtHl
  | .i0, .reg .a => .res0A
  | .i1, .reg .b => .res1B
  | .i1, .reg .c => .res1C
  | .i1, .reg .d => .res1D
  | .i1, .reg .e => .res1E
  | .i1, .reg .h => .res1H
  | .i1, .reg .l => .res1L
  | .i1, .atHl => .res1AtHl
  | .i1, .reg .a => .res1A
  | .i2, .reg .b => .res2B
  | .i2, .reg .c => .res2C
  | .i2, .reg .d => .res2D
  | .i2, .reg .e => .res2E
  | .i2, .reg .h => .res2H
  | .i2, .reg .l => .res2L
  | .i2, .atHl => .res2AtHl
  | .i2, .reg .a => .res2A
  | .i3, .reg .b => .res3B
  | .i3, .reg .c => .res3C
  | .i3, .reg .d => .res3D
  | .i3, .reg .e => .res3E
  | .i3, .reg .h => .res3H
  | .i3, .reg .l => .res3L
  | .i3, .atHl => .res3AtHl
  | .i3, .reg .a => .res3A
  | .i4, .reg .b => .res4B
  | .i4, .reg .c => .res4C
  | .i4, .reg .d => .res4D
  | .i4, .reg .e => .res4E
  | .i4, .reg .h => .res4H
  | .i4, .reg .l => .res4L
  | .i4, .atHl => .res4AtHl
  | .i4, .reg .a => .res4A
  | .i5, .reg .b => .res5B
  | .i5, .reg .c => .res5C
  | .i5, .reg .d => .res5D
  | .i5, .reg .e => .res5E
  | .i5, .reg .h => .res5H
  | .i5, .reg .l => .res5L
  | .i5, .atHl => .res5AtHl
  | .i5, .reg .a => .res5A
  | .i6, .reg .b => .res6B
  | .i6, .reg .c => .res6C
  | .i6, .reg .d => .res6D
  | .i6, .reg .e => .res6E
  | .i6, .reg .h => .res6H
  | .i6, .reg .l => .res6L
  | .i6, .atHl => .res6AtHl
  | .i6, .reg .a => .res6A
  | .i7, .reg .b => .res7B
  | .i7, .reg .c => .res7C
  | .i7, .reg .d => .res7D
  | .i7, .reg .e => .res7E
  | .i7, .reg .h => .res7H
  | .i7, .reg .l => .res7L
  | .i7, .atHl => .res7AtHl
  | .i7, .reg .a => .res7A

/-- SET b,r and SET b,(HL) (R272). -/
def Instr.ofSet (b : Idx8) (o : Opnd8) : Instr :=
  match b, o with
  | .i0, .reg .b => .set0B
  | .i0, .reg .c => .set0C
  | .i0, .reg .d => .set0D
  | .i0, .reg .e => .set0E
  | .i0, .reg .h => .set0H
  | .i0, .reg .l => .set0L
  | .i0, .atHl => .set0AtHl
  | .i0, .reg .a => .set0A
  | .i1, .reg .b => .set1B
  | .i1, .reg .c => .set1C
  | .i1, .reg .d => .set1D
  | .i1, .reg .e => .set1E
  | .i1, .reg .h => .set1H
  | .i1, .reg .l => .set1L
  | .i1, .atHl => .set1AtHl
  | .i1, .reg .a => .set1A
  | .i2, .reg .b => .set2B
  | .i2, .reg .c => .set2C
  | .i2, .reg .d => .set2D
  | .i2, .reg .e => .set2E
  | .i2, .reg .h => .set2H
  | .i2, .reg .l => .set2L
  | .i2, .atHl => .set2AtHl
  | .i2, .reg .a => .set2A
  | .i3, .reg .b => .set3B
  | .i3, .reg .c => .set3C
  | .i3, .reg .d => .set3D
  | .i3, .reg .e => .set3E
  | .i3, .reg .h => .set3H
  | .i3, .reg .l => .set3L
  | .i3, .atHl => .set3AtHl
  | .i3, .reg .a => .set3A
  | .i4, .reg .b => .set4B
  | .i4, .reg .c => .set4C
  | .i4, .reg .d => .set4D
  | .i4, .reg .e => .set4E
  | .i4, .reg .h => .set4H
  | .i4, .reg .l => .set4L
  | .i4, .atHl => .set4AtHl
  | .i4, .reg .a => .set4A
  | .i5, .reg .b => .set5B
  | .i5, .reg .c => .set5C
  | .i5, .reg .d => .set5D
  | .i5, .reg .e => .set5E
  | .i5, .reg .h => .set5H
  | .i5, .reg .l => .set5L
  | .i5, .atHl => .set5AtHl
  | .i5, .reg .a => .set5A
  | .i6, .reg .b => .set6B
  | .i6, .reg .c => .set6C
  | .i6, .reg .d => .set6D
  | .i6, .reg .e => .set6E
  | .i6, .reg .h => .set6H
  | .i6, .reg .l => .set6L
  | .i6, .atHl => .set6AtHl
  | .i6, .reg .a => .set6A
  | .i7, .reg .b => .set7B
  | .i7, .reg .c => .set7C
  | .i7, .reg .d => .set7D
  | .i7, .reg .e => .set7E
  | .i7, .reg .h => .set7H
  | .i7, .reg .l => .set7L
  | .i7, .atHl => .set7AtHl
  | .i7, .reg .a => .set7A

end Sys2Proof
end

