-- ==== Sys2Proof/WellFormed.lean ====
section
/-! DEFINITION. Which instructions exist under a setting of DECODE_SET (R109, R110). Every operand has every value of its
width, so only the set of opcodes and the code of the tag Invalid are checked. -/

namespace Sys2Proof

/-- The instructions of the source's decode groups (R110), by name; the escape stands among them. -/
def Instr.documented : Instr → Bool
  | .prefixCb => true
  | .nop => true
  | .ldBcD16 _ => true
  | .ldAtBcA => true
  | .incBc => true
  | .incB => true
  | .decB => true
  | .ldBD8 _ => true
  | .rlca => true
  | .addHlBc => true
  | .ldAAtBc => true
  | .decBc => true
  | .incC => true
  | .decC => true
  | .ldCD8 _ => true
  | .rrca => true
  | .stop => true
  | .ldDeD16 _ => true
  | .ldAtDeA => true
  | .incDe => true
  | .incD => true
  | .decD => true
  | .ldDD8 _ => true
  | .rla => true
  | .jrE8 _ => true
  | .addHlDe => true
  | .ldAAtDe => true
  | .decDe => true
  | .incE => true
  | .decE => true
  | .ldED8 _ => true
  | .rra => true
  | .jrNzE8 _ => true
  | .ldHlD16 _ => true
  | .ldAtHlIncA => true
  | .incHl => true
  | .incH => true
  | .decH => true
  | .ldHD8 _ => true
  | .jrZE8 _ => true
  | .addHlHl => true
  | .ldAAtHlInc => true
  | .decHl => true
  | .incL => true
  | .decL => true
  | .ldLD8 _ => true
  | .jrNcE8 _ => true
  | .ldSpD16 _ => true
  | .ldAtHlDecA => true
  | .incSp => true
  | .incAtHl => true
  | .decAtHl => true
  | .jrCE8 _ => true
  | .addHlSp => true
  | .ldAAtHlDec => true
  | .decSp => true
  | .incA => true
  | .decA => true
  | .ldAD8 _ => true
  | .halt => true
  | .jpA16 _ => true
  | _ => false

/-- The codes that execute as Invalid (R306): under FULL the eleven bytes of R109; under DOCUMENTED every primary byte
outside the documented set and every CB-table byte. -/
def invalidCode (ds : DecodeSet) (code : Word) : Bool :=
  match ds with
  | .full => illegalOpcodes.any fun op => code == primaryCode op
  | .documented =>
    let hi := code.extractLsb' 8 8
    let lo := code.extractLsb' 0 8
    hi == 0xCB || (hi == 0x00 && !documentedOpcodes.contains lo)

/-- An instruction of the machine with the given DECODE_SET: its opcode is in the set, and the tag Invalid carries the
code of a byte that is in it no instruction. -/
def WellFormed (ds : DecodeSet) (i : Instr) : Bool :=
  match i with
  | .invalid code => invalidCode ds code
  | i => ds == .full || i.documented

end Sys2Proof
end

