-- ==== Sys2Proof/Decode.lean ====
section
/-! DEFINITION. The decoder, reading opcode bytes by the fields of spec/30_encoding.md R101 to R106, and after it the
encoder, written from the opcode maps of R107 and R108. Also the byte-order and bit-field helpers both use. -/

namespace Sys2Proof

/-! ## Byte order and fields -/

/-- {hi, lo} (R6, R24): a 16-bit value from its two bytes. -/
def pair (hi lo : Byte) : Word := hi ++ lo

/-- v[15:8] (R24). -/
def hiByte (v : Word) : Byte := v.extractLsb' 8 8

/-- v[7:0] (R24). -/
def loByte (v : Word) : Byte := v.extractLsb' 0 8

/-- The field x, bits 7:6 (R101). -/
def fieldX (o : Byte) : Nat := (o.extractLsb' 6 2).toNat

/-- The field y, bits 5:3 (R101). -/
def fieldY (o : Byte) : Nat := (o.extractLsb' 3 3).toNat

/-- The field z, bits 2:0 (R101). -/
def fieldZ (o : Byte) : Nat := (o.extractLsb' 0 3).toNat

/-- The field p, bits 5:4 (R101). -/
def fieldP (o : Byte) : Nat := (o.extractLsb' 4 2).toNat

/-- The field q, bit 3 (R101). -/
def fieldQ (o : Byte) : Bool := o.getLsbD 3

/-- The 8-bit register field (R102). -/
def opnd8Of : Nat → Opnd8
  | 0 => .reg .b
  | 1 => .reg .c
  | 2 => .reg .d
  | 3 => .reg .e
  | 4 => .reg .h
  | 5 => .reg .l
  | 6 => .atHl
  | _ => .reg .a

/-- The pair field in the table rp (R103). -/
def reg16Of : Nat → Reg16
  | 0 => .bc
  | 1 => .de
  | 2 => .hl
  | _ => .sp

/-- The pair field in the table rp2 (R103). -/
def stackRegOf : Nat → StackReg
  | 0 => .bc
  | 1 => .de
  | 2 => .hl
  | _ => .af

/-- The condition field (R104). -/
def condOf : Nat → Cond
  | 0 => .nz
  | 1 => .z
  | 2 => .nc
  | _ => .c

/-- The operation field ooo (R214). -/
def aluOpOf : Nat → AluOp
  | 0 => .add
  | 1 => .adc
  | 2 => .sub
  | 3 => .sbc
  | 4 => .and
  | 5 => .xor
  | 6 => .or
  | _ => .cp

/-- The CB operation field y (R254). -/
def rotOpOf : Nat → RotOp
  | 0 => .rlc
  | 1 => .rrc
  | 2 => .rl
  | 3 => .rr
  | 4 => .sla
  | 5 => .sra
  | 6 => .swap
  | _ => .srl

/-- The field y as a bit number or a restart number (R105). -/
def idx8Of : Nat → Idx8
  | 0 => .i0
  | 1 => .i1
  | 2 => .i2
  | 3 => .i3
  | 4 => .i4
  | 5 => .i5
  | 6 => .i6
  | _ => .i7

/-! ## Tags -/

/-- The tag of a primary byte (R111, R112): an instruction of no operand byte, one that waits for one operand byte or for
two (R105), the escape, or Invalid. -/
inductive Tag where
  | op (i : Instr)
  | imm8 (mk : Byte → Instr)
  | imm16 (mk : Word → Instr)
  | escape
  | invalid

/-- The quadrant x = 0. -/
def decodeX0 (o : Byte) : Tag :=
  match fieldZ o with
  | 0 =>
    match fieldY o with
    | 0 => .op .nop
    | 1 => .imm16 .ldAtA16Sp
    | 2 => .op .stop
    | 3 => .imm8 .jrE8
    | y => .imm8 (Instr.ofJrCc (condOf (y - 4)))
  | 1 => if fieldQ o then .op (.ofAddHl (reg16Of (fieldP o))) else .imm16 (Instr.ofLdImm16 (reg16Of (fieldP o)))
  | 2 =>
    match fieldY o with
    | 0 => .op .ldAtBcA
    | 1 => .op .ldAAtBc
    | 2 => .op .ldAtDeA
    | 3 => .op .ldAAtDe
    | 4 => .op .ldAtHlIncA
    | 5 => .op .ldAAtHlInc
    | 6 => .op .ldAtHlDecA
    | _ => .op .ldAAtHlDec
  | 3 => .op (if fieldQ o then .ofDec16 (reg16Of (fieldP o)) else .ofInc16 (reg16Of (fieldP o)))
  | 4 => .op (.ofInc (opnd8Of (fieldY o)))
  | 5 => .op (.ofDec (opnd8Of (fieldY o)))
  | 6 => .imm8 (Instr.ofLdImm8 (opnd8Of (fieldY o)))
  | _ =>
    match fieldY o with
    | 0 => .op .rlca
    | 1 => .op .rrca
    | 2 => .op .rla
    | 3 => .op .rra
    | 4 => .op .daa
    | 5 => .op .cpl
    | 6 => .op .scf
    | _ => .op .ccf

/-- The quadrant x = 1: the 8-bit transfers, with HALT in the cell of both fields 6 (R168, R302). -/
def decodeX1 (o : Byte) : Tag :=
  match opnd8Of (fieldY o), opnd8Of (fieldZ o) with
  | .atHl, .atHl => .op .halt
  | .atHl, .reg src => .op (.ofLdToHl src)
  | .reg dst, .atHl => .op (.ofLdFromHl dst)
  | .reg dst, .reg src => .op (.ofLdReg dst src)

/-- The quadrant x = 3. -/
def decodeX3 (o : Byte) : Tag :=
  match fieldZ o with
  | 0 =>
    match fieldY o with
    | 4 => .imm8 .ldhAtA8A
    | 5 => .imm8 .addSpE8
    | 6 => .imm8 .ldhAAtA8
    | 7 => .imm8 .ldHlSpE8
    | y => .op (.ofRetCc (condOf y))
  | 1 =>
    match fieldQ o, fieldP o with
    | false, p => .op (.ofPop (stackRegOf p))
    | true, 0 => .op .ret
    | true, 1 => .op .reti
    | true, 2 => .op .jpHl
    | true, _ => .op .ldSpHl
  | 2 =>
    match fieldY o with
    | 4 => .op .ldAtCA
    | 5 => .imm16 .ldAtA16A
    | 6 => .op .ldAAtC
    | 7 => .imm16 .ldAAtA16
    | y => .imm16 (Instr.ofJpCc (condOf y))
  | 3 =>
    match fieldY o with
    | 0 => .imm16 .jpA16
    | 1 => .escape
    | 6 => .op .di
    | 7 => .op .ei
    | _ => .invalid
  | 4 => if fieldY o < 4 then .imm16 (Instr.ofCallCc (condOf (fieldY o))) else .invalid
  | 5 =>
    match fieldQ o, fieldP o with
    | false, p => .op (.ofPush (stackRegOf p))
    | true, 0 => .imm16 .callA16
    | true, _ => .invalid
  | 6 => .imm8 (Instr.ofAluImm (aluOpOf (fieldY o)))
  | _ => .op (.ofRst (idx8Of (fieldY o)))

/-- The primary map under FULL, read by fields (R101 to R104, R107, R109). -/
def decodePrimary (o : Byte) : Tag :=
  match fieldX o with
  | 0 => decodeX0 o
  | 1 => decodeX1 o
  | 2 => .op (.ofAlu (aluOpOf (fieldY o)) (opnd8Of (fieldZ o)))
  | _ => decodeX3 o

/-- decode (R132): the primary map restricted by DECODE_SET (R110). -/
def decodeTag (ds : DecodeSet) (o : Byte) : Tag :=
  match ds with
  | .full => decodePrimary o
  | .documented => if documentedOpcodes.contains o then decodePrimary o else .invalid

/-- decode_cb (R132): the CB map by fields (R106), of which DOCUMENTED leaves nothing (R110). -/
def decodeCb (ds : DecodeSet) (o : Byte) : Instr :=
  match ds with
  | .documented => .invalid (cbCode o)
  | .full =>
    match fieldX o with
    | 0 => .ofRot (rotOpOf (fieldY o)) (opnd8Of (fieldZ o))
    | 1 => .ofBit (idx8Of (fieldY o)) (opnd8Of (fieldZ o))
    | 2 => .ofRes (idx8Of (fieldY o)) (opnd8Of (fieldZ o))
    | _ => .ofSet (idx8Of (fieldY o)) (opnd8Of (fieldZ o))

/-! ## Decoding bytes -/

/-- Why a list of bytes is no instruction: every byte has a tag (R111), so only bytes can be missing. -/
inductive DecodeReject where
  | noByte
  | operandMissing
  deriving DecidableEq, Repr

/-- The instruction at the head of a list of bytes, and the rest of the list. The escape byte standing alone is the tag
PREFIX CB itself, which waits for its second byte (R106, R305). -/
def decode (ds : DecodeSet) : List Byte → Except DecodeReject (Instr × List Byte)
  | [] => .error .noByte
  | o :: rest =>
    match decodeTag ds o with
    | .op i => .ok (i, rest)
    | .invalid => .ok (.invalid (primaryCode o), rest)
    | .imm8 mk =>
      match rest with
      | n :: rest => .ok (mk n, rest)
      | [] => .error .operandMissing
    | .imm16 mk =>
      match rest with
      | lo :: hi :: rest => .ok (mk (pair hi lo), rest)
      | [_] => .error .operandMissing
      | [] => .error .operandMissing
    | .escape =>
      match rest with
      | o2 :: rest => .ok (decodeCb ds o2, rest)
      | [] => .ok (.prefixCb, [])

/-- How many bytes follow the opcode byte in an instruction whose row of the opcode table is one byte wide: the operand
bytes of the format (R100). The row PREFIX CB has none. -/
def operandBytes (o : Byte) : Nat :=
  match decodePrimary o with
  | .op _ => 0
  | .invalid => 0
  | .escape => 0
  | .imm8 _ => 1
  | .imm16 _ => 2

/-- The bytes of an instruction given as spec/opcode_table.json numbers its bits, operand bytes zero: one byte is the
opcode, followed by zero operand bytes; two bytes are the escape and the second byte, which the table writes as one number
with 0xCB above (log entry 7); otherwise the bytes stand from the least significant up. -/
def tableBytes (nbits w : Nat) : List Byte :=
  let byte := fun k : Nat => BitVec.ofNat 8 (w / 256 ^ k)
  if nbits ≤ 8 then byte 0 :: List.replicate (operandBytes (byte 0)) 0
  else if nbits ≤ 16 ∧ byte 1 = 0xCB then [byte 1, byte 0]
  else (List.range ((nbits + 7) / 8)).map byte

/-- The instruction the decoder reads, under the default DECODE_SET, from the bits of a row of the opcode table. -/
def decodeTableWord (nbits w : Nat) : Option Instr :=
  match decode .full (tableBytes nbits w) with
  | .ok (i, _) => some i
  | .error _ => none

/-! ## Lengths -/

/-- The grid of instruction lengths of R107, a row for each high nibble. -/
def lengthGrid : List Nat :=
  [1, 3, 1, 1, 1, 1, 2, 1, 3, 1, 1, 1, 1, 1, 2, 1] ++
  [1, 3, 1, 1, 1, 1, 2, 1, 2, 1, 1, 1, 1, 1, 2, 1] ++
  [2, 3, 1, 1, 1, 1, 2, 1, 2, 1, 1, 1, 1, 1, 2, 1] ++
  [2, 3, 1, 1, 1, 1, 2, 1, 2, 1, 1, 1, 1, 1, 2, 1] ++
  [1, 1, 1, 1, 1, 1, 1, 1, 1, 1, 1, 1, 1, 1, 1, 1] ++
  [1, 1, 1, 1, 1, 1, 1, 1, 1, 1, 1, 1, 1, 1, 1, 1] ++
  [1, 1, 1, 1, 1, 1, 1, 1, 1, 1, 1, 1, 1, 1, 1, 1] ++
  [1, 1, 1, 1, 1, 1, 1, 1, 1, 1, 1, 1, 1, 1, 1, 1] ++
  [1, 1, 1, 1, 1, 1, 1, 1, 1, 1, 1, 1, 1, 1, 1, 1] ++
  [1, 1, 1, 1, 1, 1, 1, 1, 1, 1, 1, 1, 1, 1, 1, 1] ++
  [1, 1, 1, 1, 1, 1, 1, 1, 1, 1, 1, 1, 1, 1, 1, 1] ++
  [1, 1, 1, 1, 1, 1, 1, 1, 1, 1, 1, 1, 1, 1, 1, 1] ++
  [1, 1, 3, 3, 3, 1, 2, 1, 1, 1, 3, 1, 3, 3, 2, 1] ++
  [1, 1, 3, 1, 3, 1, 2, 1, 1, 1, 3, 1, 3, 1, 2, 1] ++
  [2, 1, 1, 1, 1, 1, 2, 1, 2, 1, 3, 1, 1, 1, 2, 1] ++
  [2, 1, 1, 1, 1, 1, 2, 1, 2, 1, 3, 1, 1, 1, 2, 1]

/-- The length of an instruction, known from its first byte alone (R100): the grid's value, and after the escape always
two bytes. -/
def lengthOf (o : Byte) : Nat := if o = 0xCB then 2 else lengthGrid.getD o.toNat 0

/-! ## Encoding -/

/-- The bytes of an instruction, in address order (R100), its opcode from the maps of R107 and R108. The bytes of the tag
Invalid are the byte or bytes its code stands for (R306). -/
def encode (i : Instr) : List Byte :=
  match i with
  | .nop => [0x00]
  | .ldBcD16 nn => [0x01, loByte nn, hiByte nn]
  | .ldAtBcA => [0x02]
  | .incBc => [0x03]
  | .incB => [0x04]
  | .decB => [0x05]
  | .ldBD8 n => [0x06, n]
  | .rlca => [0x07]
  | .ldAtA16Sp nn => [0x08, loByte nn, hiByte nn]
  | .addHlBc => [0x09]
  | .ldAAtBc => [0x0A]
  | .decBc => [0x0B]
  | .incC => [0x0C]
  | .decC => [0x0D]
  | .ldCD8 n => [0x0E, n]
  | .rrca => [0x0F]
  | .stop => [0x10]
  | .ldDeD16 nn => [0x11, loByte nn, hiByte nn]
  | .ldAtDeA => [0x12]
  | .incDe => [0x13]
  | .incD => [0x14]
  | .decD => [0x15]
  | .ldDD8 n => [0x16, n]
  | .rla => [0x17]
  | .jrE8 e => [0x18, e]
  | .addHlDe => [0x19]
  | .ldAAtDe => [0x1A]
  | .decDe => [0x1B]
  | .incE => [0x1C]
  | .decE => [0x1D]
  | .ldED8 n => [0x1E, n]
  | .rra => [0x1F]
  | .jrNzE8 e => [0x20, e]
  | .ldHlD16 nn => [0x21, loByte nn, hiByte nn]
  | .ldAtHlIncA => [0x22]
  | .incHl => [0x23]
  | .incH => [0x24]
  | .decH => [0x25]
  | .ldHD8 n => [0x26, n]
  | .daa => [0x27]
  | .jrZE8 e => [0x28, e]
  | .addHlHl => [0x29]
  | .ldAAtHlInc => [0x2A]
  | .decHl => [0x2B]
  | .incL => [0x2C]
  | .decL => [0x2D]
  | .ldLD8 n => [0x2E, n]
  | .cpl => [0x2F]
  | .jrNcE8 e => [0x30, e]
  | .ldSpD16 nn => [0x31, loByte nn, hiByte nn]
  | .ldAtHlDecA => [0x32]
  | .incSp => [0x33]
  | .incAtHl => [0x34]
  | .decAtHl => [0x35]
  | .ldAtHlD8 n => [0x36, n]
  | .scf => [0x37]
  | .jrCE8 e => [0x38, e]
  | .addHlSp => [0x39]
  | .ldAAtHlDec => [0x3A]
  | .decSp => [0x3B]
  | .incA => [0x3C]
  | .decA => [0x3D]
  | .ldAD8 n => [0x3E, n]
  | .ccf => [0x3F]
  | .ldBB => [0x40]
  | .ldBC => [0x41]
  | .ldBD => [0x42]
  | .ldBE => [0x43]
  | .ldBH => [0x44]
  | .ldBL => [0x45]
  | .ldBAtHl => [0x46]
  | .ldBA => [0x47]
  | .ldCB => [0x48]
  | .ldCC => [0x49]
  | .ldCD => [0x4A]
  | .ldCE => [0x4B]
  | .ldCH => [0x4C]
  | .ldCL => [0x4D]
  | .ldCAtHl => [0x4E]
  | .ldCA => [0x4F]
  | .ldDB => [0x50]
  | .ldDC => [0x51]
  | .ldDD => [0x52]
  | .ldDE => [0x53]
  | .ldDH => [0x54]
  | .ldDL => [0x55]
  | .ldDAtHl => [0x56]
  | .ldDA => [0x57]
  | .ldEB => [0x58]
  | .ldEC => [0x59]
  | .ldED => [0x5A]
  | .ldEE => [0x5B]
  | .ldEH => [0x5C]
  | .ldEL => [0x5D]
  | .ldEAtHl => [0x5E]
  | .ldEA => [0x5F]
  | .ldHB => [0x60]
  | .ldHC => [0x61]
  | .ldHD => [0x62]
  | .ldHE => [0x63]
  | .ldHH => [0x64]
  | .ldHL => [0x65]
  | .ldHAtHl => [0x66]
  | .ldHA => [0x67]
  | .ldLB => [0x68]
  | .ldLC => [0x69]
  | .ldLD => [0x6A]
  | .ldLE => [0x6B]
  | .ldLH => [0x6C]
  | .ldLL => [0x6D]
  | .ldLAtHl => [0x6E]
  | .ldLA => [0x6F]
  | .ldAtHlB => [0x70]
  | .ldAtHlC => [0x71]
  | .ldAtHlD => [0x72]
  | .ldAtHlE => [0x73]
  | .ldAtHlH => [0x74]
  | .ldAtHlL => [0x75]
  | .halt => [0x76]
  | .ldAtHlA => [0x77]
  | .ldAB => [0x78]
  | .ldAC => [0x79]
  | .ldAD => [0x7A]
  | .ldAE => [0x7B]
  | .ldAH => [0x7C]
  | .ldAL => [0x7D]
  | .ldAAtHl => [0x7E]
  | .ldAA => [0x7F]
  | .addAB => [0x80]
  | .addAC => [0x81]
  | .addAD => [0x82]
  | .addAE => [0x83]
  | .addAH => [0x84]
  | .addAL => [0x85]
  | .addAAtHl => [0x86]
  | .addAA => [0x87]
  | .adcAB => [0x88]
  | .adcAC => [0x89]
  | .adcAD => [0x8A]
  | .adcAE => [0x8B]
  | .adcAH => [0x8C]
  | .adcAL => [0x8D]
  | .adcAAtHl => [0x8E]
  | .adcAA => [0x8F]
  | .subB => [0x90]
  | .subC => [0x91]
  | .subD => [0x92]
  | .subE => [0x93]
  | .subH => [0x94]
  | .subL => [0x95]
  | .subAtHl => [0x96]
  | .subA => [0x97]
  | .sbcAB => [0x98]
  | .sbcAC => [0x99]
  | .sbcAD => [0x9A]
  | .sbcAE => [0x9B]
  | .sbcAH => [0x9C]
  | .sbcAL => [0x9D]
  | .sbcAAtHl => [0x9E]
  | .sbcAA => [0x9F]
  | .andB => [0xA0]
  | .andC => [0xA1]
  | .andD => [0xA2]
  | .andE => [0xA3]
  | .andH => [0xA4]
  | .andL => [0xA5]
  | .andAtHl => [0xA6]
  | .andA => [0xA7]
  | .xorB => [0xA8]
  | .xorC => [0xA9]
  | .xorD => [0xAA]
  | .xorE => [0xAB]
  | .xorH => [0xAC]
  | .xorL => [0xAD]
  | .xorAtHl => [0xAE]
  | .xorA => [0xAF]
  | .orB => [0xB0]
  | .orC => [0xB1]
  | .orD => [0xB2]
  | .orE => [0xB3]
  | .orH => [0xB4]
  | .orL => [0xB5]
  | .orAtHl => [0xB6]
  | .orA => [0xB7]
  | .cpB => [0xB8]
  | .cpC => [0xB9]
  | .cpD => [0xBA]
  | .cpE => [0xBB]
  | .cpH => [0xBC]
  | .cpL => [0xBD]
  | .cpAtHl => [0xBE]
  | .cpA => [0xBF]
  | .retNz => [0xC0]
  | .popBc => [0xC1]
  | .jpNzA16 nn => [0xC2, loByte nn, hiByte nn]
  | .jpA16 nn => [0xC3, loByte nn, hiByte nn]
  | .callNzA16 nn => [0xC4, loByte nn, hiByte nn]
  | .pushBc => [0xC5]
  | .addAD8 n => [0xC6, n]
  | .rst00 => [0xC7]
  | .retZ => [0xC8]
  | .ret => [0xC9]
  | .jpZA16 nn => [0xCA, loByte nn, hiByte nn]
  | .prefixCb => [0xCB]
  | .callZA16 nn => [0xCC, loByte nn, hiByte nn]
  | .callA16 nn => [0xCD, loByte nn, hiByte nn]
  | .adcAD8 n => [0xCE, n]
  | .rst08 => [0xCF]
  | .retNc => [0xD0]
  | .popDe => [0xD1]
  | .jpNcA16 nn => [0xD2, loByte nn, hiByte nn]
  | .invalid code => if hiByte code = 0x00 then [loByte code] else [hiByte code, loByte code]
  | .callNcA16 nn => [0xD4, loByte nn, hiByte nn]
  | .pushDe => [0xD5]
  | .subD8 n => [0xD6, n]
  | .rst10 => [0xD7]
  | .retC => [0xD8]
  | .reti => [0xD9]
  | .jpCA16 nn => [0xDA, loByte nn, hiByte nn]
  | .callCA16 nn => [0xDC, loByte nn, hiByte nn]
  | .sbcAD8 n => [0xDE, n]
  | .rst18 => [0xDF]
  | .ldhAtA8A n => [0xE0, n]
  | .popHl => [0xE1]
  | .ldAtCA => [0xE2]
  | .pushHl => [0xE5]
  | .andD8 n => [0xE6, n]
  | .rst20 => [0xE7]
  | .addSpE8 e => [0xE8, e]
  | .jpHl => [0xE9]
  | .ldAtA16A nn => [0xEA, loByte nn, hiByte nn]
  | .xorD8 n => [0xEE, n]
  | .rst28 => [0xEF]
  | .ldhAAtA8 n => [0xF0, n]
  | .popAf => [0xF1]
  | .ldAAtC => [0xF2]
  | .di => [0xF3]
  | .pushAf => [0xF5]
  | .orD8 n => [0xF6, n]
  | .rst30 => [0xF7]
  | .ldHlSpE8 e => [0xF8, e]
  | .ldSpHl => [0xF9]
  | .ldAAtA16 nn => [0xFA, loByte nn, hiByte nn]
  | .ei => [0xFB]
  | .cpD8 n => [0xFE, n]
  | .rst38 => [0xFF]
  | .rlcB => [0xCB, 0x00]
  | .rlcC => [0xCB, 0x01]
  | .rlcD => [0xCB, 0x02]
  | .rlcE => [0xCB, 0x03]
  | .rlcH => [0xCB, 0x04]
  | .rlcL => [0xCB, 0x05]
  | .rlcAtHl => [0xCB, 0x06]
  | .rlcA => [0xCB, 0x07]
  | .rrcB => [0xCB, 0x08]
  | .rrcC => [0xCB, 0x09]
  | .rrcD => [0xCB, 0x0A]
  | .rrcE => [0xCB, 0x0B]
  | .rrcH => [0xCB, 0x0C]
  | .rrcL => [0xCB, 0x0D]
  | .rrcAtHl => [0xCB, 0x0E]
  | .rrcA => [0xCB, 0x0F]
  | .rlB => [0xCB, 0x10]
  | .rlC => [0xCB, 0x11]
  | .rlD => [0xCB, 0x12]
  | .rlE => [0xCB, 0x13]
  | .rlH => [0xCB, 0x14]
  | .rlL => [0xCB, 0x15]
  | .rlAtHl => [0xCB, 0x16]
  | .rlA => [0xCB, 0x17]
  | .rrB => [0xCB, 0x18]
  | .rrC => [0xCB, 0x19]
  | .rrD => [0xCB, 0x1A]
  | .rrE => [0xCB, 0x1B]
  | .rrH => [0xCB, 0x1C]
  | .rrL => [0xCB, 0x1D]
  | .rrAtHl => [0xCB, 0x1E]
  | .rrA => [0xCB, 0x1F]
  | .slaB => [0xCB, 0x20]
  | .slaC => [0xCB, 0x21]
  | .slaD => [0xCB, 0x22]
  | .slaE => [0xCB, 0x23]
  | .slaH => [0xCB, 0x24]
  | .slaL => [0xCB, 0x25]
  | .slaAtHl => [0xCB, 0x26]
  | .slaA => [0xCB, 0x27]
  | .sraB => [0xCB, 0x28]
  | .sraC => [0xCB, 0x29]
  | .sraD => [0xCB, 0x2A]
  | .sraE => [0xCB, 0x2B]
  | .sraH => [0xCB, 0x2C]
  | .sraL => [0xCB, 0x2D]
  | .sraAtHl => [0xCB, 0x2E]
  | .sraA => [0xCB, 0x2F]
  | .swapB => [0xCB, 0x30]
  | .swapC => [0xCB, 0x31]
  | .swapD => [0xCB, 0x32]
  | .swapE => [0xCB, 0x33]
  | .swapH => [0xCB, 0x34]
  | .swapL => [0xCB, 0x35]
  | .swapAtHl => [0xCB, 0x36]
  | .swapA => [0xCB, 0x37]
  | .srlB => [0xCB, 0x38]
  | .srlC => [0xCB, 0x39]
  | .srlD => [0xCB, 0x3A]
  | .srlE => [0xCB, 0x3B]
  | .srlH => [0xCB, 0x3C]
  | .srlL => [0xCB, 0x3D]
  | .srlAtHl => [0xCB, 0x3E]
  | .srlA => [0xCB, 0x3F]
  | .bit0B => [0xCB, 0x40]
  | .bit0C => [0xCB, 0x41]
  | .bit0D => [0xCB, 0x42]
  | .bit0E => [0xCB, 0x43]
  | .bit0H => [0xCB, 0x44]
  | .bit0L => [0xCB, 0x45]
  | .bit0AtHl => [0xCB, 0x46]
  | .bit0A => [0xCB, 0x47]
  | .bit1B => [0xCB, 0x48]
  | .bit1C => [0xCB, 0x49]
  | .bit1D => [0xCB, 0x4A]
  | .bit1E => [0xCB, 0x4B]
  | .bit1H => [0xCB, 0x4C]
  | .bit1L => [0xCB, 0x4D]
  | .bit1AtHl => [0xCB, 0x4E]
  | .bit1A => [0xCB, 0x4F]
  | .bit2B => [0xCB, 0x50]
  | .bit2C => [0xCB, 0x51]
  | .bit2D => [0xCB, 0x52]
  | .bit2E => [0xCB, 0x53]
  | .bit2H => [0xCB, 0x54]
  | .bit2L => [0xCB, 0x55]
  | .bit2AtHl => [0xCB, 0x56]
  | .bit2A => [0xCB, 0x57]
  | .bit3B => [0xCB, 0x58]
  | .bit3C => [0xCB, 0x59]
  | .bit3D => [0xCB, 0x5A]
  | .bit3E => [0xCB, 0x5B]
  | .bit3H => [0xCB, 0x5C]
  | .bit3L => [0xCB, 0x5D]
  | .bit3AtHl => [0xCB, 0x5E]
  | .bit3A => [0xCB, 0x5F]
  | .bit4B => [0xCB, 0x60]
  | .bit4C => [0xCB, 0x61]
  | .bit4D => [0xCB, 0x62]
  | .bit4E => [0xCB, 0x63]
  | .bit4H => [0xCB, 0x64]
  | .bit4L => [0xCB, 0x65]
  | .bit4AtHl => [0xCB, 0x66]
  | .bit4A => [0xCB, 0x67]
  | .bit5B => [0xCB, 0x68]
  | .bit5C => [0xCB, 0x69]
  | .bit5D => [0xCB, 0x6A]
  | .bit5E => [0xCB, 0x6B]
  | .bit5H => [0xCB, 0x6C]
  | .bit5L => [0xCB, 0x6D]
  | .bit5AtHl => [0xCB, 0x6E]
  | .bit5A => [0xCB, 0x6F]
  | .bit6B => [0xCB, 0x70]
  | .bit6C => [0xCB, 0x71]
  | .bit6D => [0xCB, 0x72]
  | .bit6E => [0xCB, 0x73]
  | .bit6H => [0xCB, 0x74]
  | .bit6L => [0xCB, 0x75]
  | .bit6AtHl => [0xCB, 0x76]
  | .bit6A => [0xCB, 0x77]
  | .bit7B => [0xCB, 0x78]
  | .bit7C => [0xCB, 0x79]
  | .bit7D => [0xCB, 0x7A]
  | .bit7E => [0xCB, 0x7B]
  | .bit7H => [0xCB, 0x7C]
  | .bit7L => [0xCB, 0x7D]
  | .bit7AtHl => [0xCB, 0x7E]
  | .bit7A => [0xCB, 0x7F]
  | .res0B => [0xCB, 0x80]
  | .res0C => [0xCB, 0x81]
  | .res0D => [0xCB, 0x82]
  | .res0E => [0xCB, 0x83]
  | .res0H => [0xCB, 0x84]
  | .res0L => [0xCB, 0x85]
  | .res0AtHl => [0xCB, 0x86]
  | .res0A => [0xCB, 0x87]
  | .res1B => [0xCB, 0x88]
  | .res1C => [0xCB, 0x89]
  | .res1D => [0xCB, 0x8A]
  | .res1E => [0xCB, 0x8B]
  | .res1H => [0xCB, 0x8C]
  | .res1L => [0xCB, 0x8D]
  | .res1AtHl => [0xCB, 0x8E]
  | .res1A => [0xCB, 0x8F]
  | .res2B => [0xCB, 0x90]
  | .res2C => [0xCB, 0x91]
  | .res2D => [0xCB, 0x92]
  | .res2E => [0xCB, 0x93]
  | .res2H => [0xCB, 0x94]
  | .res2L => [0xCB, 0x95]
  | .res2AtHl => [0xCB, 0x96]
  | .res2A => [0xCB, 0x97]
  | .res3B => [0xCB, 0x98]
  | .res3C => [0xCB, 0x99]
  | .res3D => [0xCB, 0x9A]
  | .res3E => [0xCB, 0x9B]
  | .res3H => [0xCB, 0x9C]
  | .res3L => [0xCB, 0x9D]
  | .res3AtHl => [0xCB, 0x9E]
  | .res3A => [0xCB, 0x9F]
  | .res4B => [0xCB, 0xA0]
  | .res4C => [0xCB, 0xA1]
  | .res4D => [0xCB, 0xA2]
  | .res4E => [0xCB, 0xA3]
  | .res4H => [0xCB, 0xA4]
  | .res4L => [0xCB, 0xA5]
  | .res4AtHl => [0xCB, 0xA6]
  | .res4A => [0xCB, 0xA7]
  | .res5B => [0xCB, 0xA8]
  | .res5C => [0xCB, 0xA9]
  | .res5D => [0xCB, 0xAA]
  | .res5E => [0xCB, 0xAB]
  | .res5H => [0xCB, 0xAC]
  | .res5L => [0xCB, 0xAD]
  | .res5AtHl => [0xCB, 0xAE]
  | .res5A => [0xCB, 0xAF]
  | .res6B => [0xCB, 0xB0]
  | .res6C => [0xCB, 0xB1]
  | .res6D => [0xCB, 0xB2]
  | .res6E => [0xCB, 0xB3]
  | .res6H => [0xCB, 0xB4]
  | .res6L => [0xCB, 0xB5]
  | .res6AtHl => [0xCB, 0xB6]
  | .res6A => [0xCB, 0xB7]
  | .res7B => [0xCB, 0xB8]
  | .res7C => [0xCB, 0xB9]
  | .res7D => [0xCB, 0xBA]
  | .res7E => [0xCB, 0xBB]
  | .res7H => [0xCB, 0xBC]
  | .res7L => [0xCB, 0xBD]
  | .res7AtHl => [0xCB, 0xBE]
  | .res7A => [0xCB, 0xBF]
  | .set0B => [0xCB, 0xC0]
  | .set0C => [0xCB, 0xC1]
  | .set0D => [0xCB, 0xC2]
  | .set0E => [0xCB, 0xC3]
  | .set0H => [0xCB, 0xC4]
  | .set0L => [0xCB, 0xC5]
  | .set0AtHl => [0xCB, 0xC6]
  | .set0A => [0xCB, 0xC7]
  | .set1B => [0xCB, 0xC8]
  | .set1C => [0xCB, 0xC9]
  | .set1D => [0xCB, 0xCA]
  | .set1E => [0xCB, 0xCB]
  | .set1H => [0xCB, 0xCC]
  | .set1L => [0xCB, 0xCD]
  | .set1AtHl => [0xCB, 0xCE]
  | .set1A => [0xCB, 0xCF]
  | .set2B => [0xCB, 0xD0]
  | .set2C => [0xCB, 0xD1]
  | .set2D => [0xCB, 0xD2]
  | .set2E => [0xCB, 0xD3]
  | .set2H => [0xCB, 0xD4]
  | .set2L => [0xCB, 0xD5]
  | .set2AtHl => [0xCB, 0xD6]
  | .set2A => [0xCB, 0xD7]
  | .set3B => [0xCB, 0xD8]
  | .set3C => [0xCB, 0xD9]
  | .set3D => [0xCB, 0xDA]
  | .set3E => [0xCB, 0xDB]
  | .set3H => [0xCB, 0xDC]
  | .set3L => [0xCB, 0xDD]
  | .set3AtHl => [0xCB, 0xDE]
  | .set3A => [0xCB, 0xDF]
  | .set4B => [0xCB, 0xE0]
  | .set4C => [0xCB, 0xE1]
  | .set4D => [0xCB, 0xE2]
  | .set4E => [0xCB, 0xE3]
  | .set4H => [0xCB, 0xE4]
  | .set4L => [0xCB, 0xE5]
  | .set4AtHl => [0xCB, 0xE6]
  | .set4A => [0xCB, 0xE7]
  | .set5B => [0xCB, 0xE8]
  | .set5C => [0xCB, 0xE9]
  | .set5D => [0xCB, 0xEA]
  | .set5E => [0xCB, 0xEB]
  | .set5H => [0xCB, 0xEC]
  | .set5L => [0xCB, 0xED]
  | .set5AtHl => [0xCB, 0xEE]
  | .set5A => [0xCB, 0xEF]
  | .set6B => [0xCB, 0xF0]
  | .set6C => [0xCB, 0xF1]
  | .set6D => [0xCB, 0xF2]
  | .set6E => [0xCB, 0xF3]
  | .set6H => [0xCB, 0xF4]
  | .set6L => [0xCB, 0xF5]
  | .set6AtHl => [0xCB, 0xF6]
  | .set6A => [0xCB, 0xF7]
  | .set7B => [0xCB, 0xF8]
  | .set7C => [0xCB, 0xF9]
  | .set7D => [0xCB, 0xFA]
  | .set7E => [0xCB, 0xFB]
  | .set7H => [0xCB, 0xFC]
  | .set7L => [0xCB, 0xFD]
  | .set7AtHl => [0xCB, 0xFE]
  | .set7A => [0xCB, 0xFF]

end Sys2Proof
end

