-- ==== Sys2Proof/Machine/State.lean ====
section
/-! DEFINITION. The state record of spec/10_state.md R20, its reset value (R38), and the reasons a step can stop. -/

namespace Sys2Proof.Machine

/-- The run state (R29). -/
inductive RunState where
  | running
  | stopped
  | halted
  | faulted
  deriving DecidableEq, Repr

/-- The fault kinds of the core (R321). Entering one is a next state of the machine (R137), see State.takeFault. -/
inductive FaultKind where
  | writeRom
  | readUnmapped
  | writeUnmapped
  | decodeGap
  deriving DecidableEq, Repr

/-- The fault record (R30, R321): the kind, the address or opcode that caused it, and pc0. -/
structure FaultRecord where
  kind : FaultKind
  value : Word
  pc : Word
  deriving DecidableEq, Repr

/-- What a BusFault or a DecodeGap raised inside an instruction carries (R8, R321): its kind and its recorded value. -/
structure Abort where
  kind : FaultKind
  value : Word
  deriving DecidableEq, Repr

/-- An access or a part of an instruction: a result, or the exception that aborts the instruction (R8, R137). -/
abbrev Access (α : Type) := Except Abort α

/-- The interface's fault reasons. A step never ends in one: the core's own faults are NEXT states (R137, R328). -/
inductive Fault where
  /-- ConfigError (R324, R351): raised by construction only, when IMAGE is longer than 32768 bytes. Safe: no state exists
  and no step runs. -/
  | configError
  deriving DecidableEq, Repr

/-- The interface's refusal reasons. -/
inductive Refusal where
  /-- An instruction without a meaning, by its mnemonic. Raised by no arm of exec: every instruction has its meaning.
  Safe: the model would stop where the hardware goes on. -/
  | notModelled (mnemonic : String)
  deriving DecidableEq, Repr

/-- The contents of the regions ROM, VRAM, ERAM, WRAM1, WRAM2 and IO (R61), keyed by bus address. An unlisted address
holds 0x00 (R38). -/
abbrev Memory := List Host.Cell

/-- The canonical form of a memory: addresses strictly rising, no entry equal to what an unlisted address holds. -/
def Memory.wf : Memory → Bool
  | [] => true
  | [(_, v)] => v != 0
  | (a, v) :: (b, w) :: rest => v != 0 && decide (a < b) && Memory.wf ((b, w) :: rest)

/-- The state record of R20, and the parameters the machine was built with (log entry 1). -/
structure State where
  a : Byte
  f : Byte
  b : Byte
  c : Byte
  d : Byte
  e : Byte
  h : Byte
  l : Byte
  sp : Word
  pc : Word
  ime : Bool
  eiPending : Bool
  run : RunState
  fault : Option FaultRecord
  cycles : Nat
  mem : Memory
  params : Params
  deriving DecidableEq, Repr

/-- The table of R38 for the parameters p and the region contents mem. -/
def State.initial (p : Params) (mem : Memory) : State :=
  { a := p.regInit.a, f := p.regInit.f &&& 0xF0, b := p.regInit.b, c := p.regInit.c, d := p.regInit.d,
    e := p.regInit.e, h := p.regInit.h, l := p.regInit.l, sp := p.regInit.sp, pc := 0x0100, ime := false,
    eiPending := false, run := .running, fault := none, cycles := 0, mem := mem, params := p }

/-- The state after construction with the default parameters and the empty image (R38, R351; log entry 6). -/
def State.reset : State := State.initial Params.default []

end Sys2Proof.Machine
end

