-- ==== Sys2Proof/Machine/Ops.lean ====
section
/-! DEFINITION. The named operations: region storage, the bus primitives MemRead and MemWrite, registers and pairs, the
flag update, taking a fault, completing an instruction, and fetching one. -/

namespace Sys2Proof.Machine

/-! ## Region storage -/

/-- The byte a memory holds at an address: 0x00 where nothing is listed (R38). -/
def Memory.read : Memory → Nat → Byte
  | [], _ => 0
  | (b, v) :: rest, a => if a = b then v else Memory.read rest a

/-- Puts a byte that is not 0x00 at an address, keeping the addresses rising. -/
def Memory.insert : Memory → Nat → Byte → Memory
  | [], a, v => [(a, v)]
  | (b, w) :: rest, a, v =>
    if a < b then (a, v) :: (b, w) :: rest
    else if a = b then (a, v) :: rest
    else (b, w) :: Memory.insert rest a v

/-- Removes what is listed for an address. -/
def Memory.erase : Memory → Nat → Memory
  | [], _ => []
  | (b, w) :: rest, a => if a = b then Memory.erase rest a else (b, w) :: Memory.erase rest a

/-- Stores a byte: the canonical form lists it exactly when it is not 0x00. -/
def Memory.write (m : Memory) (a : Nat) (v : Byte) : Memory := if v = 0 then Memory.erase m a else Memory.insert m a v

/-! ## The bus -/

/-- The regions of R61. -/
inductive Region where
  | rom
  | vram
  | eram
  | wram1
  | wram2
  | io
  | unmapped
  deriving DecidableEq, Repr

/-- The region that owns an address, in the order of R62's dispatch. -/
def regionOf (addr : Word) : Region :=
  if addr.toNat ≤ 0x7FFF then .rom
  else if addr.toNat ≤ 0x9FFF then .vram
  else if addr.toNat ≤ 0xBFFF then .eram
  else if addr.toNat ≤ 0xCFFF then .wram1
  else if addr.toNat ≤ 0xDFFF then .wram2
  else if 0xFF00 ≤ addr.toNat ∧ addr.toNat ≤ 0xFF7F then .io
  else .unmapped

/-- Whether an address is in IO_BACKED (R66, R67). -/
def ioBacked (p : Params) (addr : Word) : Bool :=
  p.ioBacked.any fun r => decide (r.1.toNat ≤ addr.toNat) && decide (addr.toNat ≤ r.2.toNat)

/-- MemRead(addr, 1) (R62): the byte at a bus address, or BusFault(READ_UNMAPPED, addr). -/
def readByte (s : State) (addr : Word) : Access Byte :=
  match regionOf addr with
  | .unmapped => .error ⟨.readUnmapped, addr⟩
  | .io => if ioBacked s.params addr then .ok (s.mem.read addr.toNat) else .ok 0
  | .rom | .vram | .eram | .wram1 | .wram2 => .ok (s.mem.read addr.toNat)

/-- The store of one byte into region storage. -/
def State.store (s : State) (addr : Word) (v : Byte) : State := { s with mem := s.mem.write addr.toNat v }

/-- MemWrite(addr, 1, v) (R63): the byte is stored, discarded (unbacked I/O), or BusFault is raised. -/
def writeByte (s : State) (addr : Word) (v : Byte) : Access State :=
  match regionOf addr with
  | .unmapped => .error ⟨.writeUnmapped, addr⟩
  | .rom => .error ⟨.writeRom, addr⟩
  | .io => if ioBacked s.params addr then .ok (s.store addr v) else .ok s
  | .vram | .eram | .wram1 | .wram2 => .ok (s.store addr v)

/-- MemRead(addr, 2) (R69): the low byte at addr, the high byte at u16(addr + 1). -/
def readWord (s : State) (addr : Word) : Access Word :=
  match readByte s addr with
  | .error e => .error e
  | .ok lo =>
    match readByte s (addr + 1) with
    | .error e => .error e
    | .ok hi => .ok (pair hi lo)

/-- MemWrite(addr, 2, v) (R69): the low byte first, at addr, then the high byte at u16(addr + 1). -/
def writeWord (s : State) (addr : Word) (v : Word) : Access State :=
  match writeByte s addr (loByte v) with
  | .error e => .error e
  | .ok t => writeByte t (addr + 1) (hiByte v)

/-! ## Registers -/

/-- Reading an 8-bit register (R21). -/
def State.reg8 (s : State) : Reg8 → Byte
  | .b => s.b
  | .c => s.c
  | .d => s.d
  | .e => s.e
  | .h => s.h
  | .l => s.l
  | .a => s.a

/-- Writing an 8-bit register (R21); the other half of its pair is unchanged (R24). -/
def State.setReg8 (s : State) (r : Reg8) (v : Byte) : State :=
  match r with
  | .b => { s with b := v }
  | .c => { s with c := v }
  | .d => { s with d := v }
  | .e => { s with e := v }
  | .h => { s with h := v }
  | .l => { s with l := v }
  | .a => { s with a := v }

/-- The flag register as it reads: bits 3:0 read as 0 at all times (R23). -/
def State.flagByte (s : State) : Byte := s.f &&& 0xF0

/-- Reading a pair of rp, or SP (R24, R25, R103): the first register of the name is the high byte. -/
def State.reg16 (s : State) : Reg16 → Word
  | .bc => pair s.b s.c
  | .de => pair s.d s.e
  | .hl => pair s.h s.l
  | .sp => s.sp

/-- Writing a pair of rp, or SP (R24, R25). -/
def State.setReg16 (s : State) (r : Reg16) (v : Word) : State :=
  match r with
  | .bc => { s with b := hiByte v, c := loByte v }
  | .de => { s with d := hiByte v, e := loByte v }
  | .hl => { s with h := hiByte v, l := loByte v }
  | .sp => { s with sp := v }

/-- HL, the address of the (HL) operand forms (R102). -/
def State.hl (s : State) : Word := s.reg16 .hl

/-- Reading a pair of rp2 (R103); AF = {A, F} (R24). -/
def State.stackReg (s : State) : StackReg → Word
  | .bc => pair s.b s.c
  | .de => pair s.d s.e
  | .hl => pair s.h s.l
  | .af => pair s.a s.flagByte

/-- Writing a pair of rp2; writing AF sets F to v[7:0] AND 0xF0 (R23, R24). -/
def State.setStackReg (s : State) (r : StackReg) (v : Word) : State :=
  match r with
  | .bc => { s with b := hiByte v, c := loByte v }
  | .de => { s with d := hiByte v, e := loByte v }
  | .hl => { s with h := hiByte v, l := loByte v }
  | .af => { s with a := hiByte v, f := loByte v &&& 0xF0 }

/-- Writing the stack pointer (R25). -/
def State.setSp (s : State) (v : Word) : State := { s with sp := v }

/-- Assigning the program counter (R8, R26). -/
def State.setPc (s : State) (v : Word) : State := { s with pc := v }

/-- Assigning IME (R28). -/
def State.setIme (s : State) (v : Bool) : State := { s with ime := v }

/-- Assigning EI_PENDING (R28). -/
def State.setEiPending (s : State) (v : Bool) : State := { s with eiPending := v }

/-- Assigning the run state (R29). -/
def State.setRun (s : State) (v : RunState) : State := { s with run := v }

/-- charge(n): adding n to the cycle counter (R31, R135). -/
def State.charge (s : State) (n : Nat) : State := { s with cycles := s.cycles + n }

/-! ## The flag register -/

/-- Z, bit 7 of F (R22). -/
def State.flagZ (s : State) : Bool := s.f.getLsbD 7

/-- N, bit 6 of F (R22). -/
def State.flagN (s : State) : Bool := s.f.getLsbD 6

/-- H, bit 5 of F (R22). -/
def State.flagH (s : State) : Bool := s.f.getLsbD 5

/-- C, bit 4 of F (R22). -/
def State.flagC (s : State) : Bool := s.f.getLsbD 4

/-- The byte of F with the four flags at their places and bits 3:0 zero (R22). -/
def packFlags (z n h c : Bool) : Byte :=
  (if z then 0x80 else 0) ||| (if n then 0x40 else 0) ||| (if h then 0x20 else 0) ||| (if c then 0x10 else 0)

/-- Flags(z, n, h, c) (R8, R23): each argument sets or clears its flag, or (none, the spec's dash) leaves it. -/
def State.setFlags (s : State) (z n h c : Option Bool) : State :=
  { s with f := packFlags (z.getD s.flagZ) (n.getD s.flagN) (h.getD s.flagH) (c.getD s.flagC) }

/-! ## Taking a fault, completing an instruction -/

/-- Taking a fault (R137, R328): the state before the instruction, but the run state is FAULTED and the fault record is
(kind, address or code, pc0). There is no return from it: FAULTED is final (R329). -/
def State.takeFault (s : State) (e : Abort) : State :=
  { s with run := .faulted, fault := some ⟨e.kind, e.value, s.pc⟩ }

/-- The EI promotion of R141: arm is EI_PENDING as it was when the step began. -/
def State.promoteEi (s : State) (arm : Bool) : State :=
  if arm && s.eiPending then { s with ime := true, eiPending := false } else s

/-- The end of an instruction that completes (R130): the EI promotion, then the charge. -/
def State.complete (s : State) (arm : Bool) (cost : Nat) : State := (s.promoteEi arm).charge cost

/-- One instruction of len bytes from the state s at its first byte (R130, R133, R137): PC moves past its bytes, its body
runs, and it completes at its cost, or it is rolled back to s with the fault taken. -/
def runInstr (len : Word) (cost : Nat) (body : State → Access State) (s : State) :
    Host.Outcome State Fault Refusal :=
  match body (s.setPc (s.pc + len)) with
  | .ok t => .next (t.complete s.eiPending cost)
  | .error e => .next (s.takeFault e)

/-- The cost of a conditional transfer (R136). -/
def condCost (p : Params) (holds : Bool) (taken notTaken : Nat) : Nat :=
  match p.condCycles with
  | .perTag => taken
  | .perOutcome => if holds then taken else notTaken

/-! ## Fetching an instruction -/

/-- Fetch and decode (R130 to R133): the opcode byte, then the byte after the escape or the operand bytes, each read
through the bus in address order; the first read that faults is the fault raised (R327). -/
def fetchInstr (s : State) : Access Instr :=
  match readByte s s.pc with
  | .error e => .error e
  | .ok op =>
    match decodeTag s.params.decodeSet op with
    | .op i => .ok i
    | .invalid => .ok (.invalid (primaryCode op))
    | .imm8 mk =>
      match readByte s (s.pc + 1) with
      | .error e => .error e
      | .ok n => .ok (mk n)
    | .imm16 mk =>
      match readWord s (s.pc + 1) with
      | .error e => .error e
      | .ok nn => .ok (mk nn)
    | .escape =>
      match readByte s (s.pc + 1) with
      | .error e => .error e
      | .ok op2 => .ok (decodeCb s.params.decodeSet op2)

/-! ## The stack -/

/-- A push (R194): SP is decremented before each store, the high byte goes first. -/
def push (s : State) (v : Word) : Access State :=
  match writeByte (s.setSp (s.sp - 1)) (s.sp - 1) (hiByte v) with
  | .error e => .error e
  | .ok t => writeByte (t.setSp (t.sp - 1)) (t.sp - 1) (loByte v)

/-- The value and the state after a pop (R195): the low byte first, SP is incremented after each load. -/
def pop (s : State) : Access (Word × State) :=
  match readByte s s.sp with
  | .error e => .error e
  | .ok lo =>
    match readByte s (s.sp + 1) with
    | .error e => .error e
    | .ok hi => .ok (pair hi lo, s.setSp (s.sp + 1 + 1))

end Sys2Proof.Machine
end

