-- ==== Sys2Proof/Machine/Operands.lean ====
section
/-! DEFINITION. The operand forms of spec/30_encoding.md R102 to R105: the 8-bit operand, the conditions, high-page
addresses and the signed displacement. -/

namespace Sys2Proof.Machine

/-- Reading an 8-bit operand (R102): a register, or MemRead(HL, 1). -/
def readOpnd (s : State) : Opnd8 → Access Byte
  | .reg r => .ok (s.reg8 r)
  | .atHl => readByte s s.hl

/-- Writing an 8-bit operand (R102): a register, or MemWrite(HL, 1, v). -/
def writeOpnd (s : State) (o : Opnd8) (v : Byte) : Access State :=
  match o with
  | .reg r => .ok (s.setReg8 r v)
  | .atHl => writeByte s s.hl v

/-- Whether a condition holds (R104, R280). -/
def State.cond (s : State) : Cond → Bool
  | .nz => !s.flagZ
  | .z => s.flagZ
  | .nc => !s.flagC
  | .c => s.flagC

/-- 0xFF00 + n: the address of a8 and of (C) (R105). -/
def highPage (n : Byte) : Word := 0xFF00 + n.zeroExtend 16

/-- sext_16 (R7): the displacement e8 as a 16-bit value (R105). -/
def sext16 (e : Byte) : Word := if e.toNat < 0x80 then e.zeroExtend 16 else e.zeroExtend 16 + 0xFF00

/-- The address of RST n, n = y * 8 (R105, R291). -/
def restartTarget (y : Idx8) : Word := BitVec.ofNat 16 (y.toNat * 8)

/-- The cost of an operation on an 8-bit operand, by its form. -/
def opndCost (o : Opnd8) (reg mem : Nat) : Nat :=
  match o with
  | .reg _ => reg
  | .atHl => mem

end Sys2Proof.Machine
end

