-- ==== Sys2Proof/Machine/Flags.lean ====
section
/-! DEFINITION. The results and flags of the arithmetic, logic, rotate and shift operations, computed as the pseudocode of
spec/43 to 45 does: exact integers first, narrowed at the end. -/

namespace Sys2Proof.Machine

/-- The low nibble v & 0x0F as a number. -/
def lowNibble (v : Byte) : Nat := v.toNat % 16

/-- What an 8-bit operation gives: its result and the four flags. -/
structure Result8 where
  res : Byte
  z : Bool
  n : Bool
  h : Bool
  c : Bool
  deriving DecidableEq, Repr

/-- A + v + c (R215 with c = 0, R216). -/
def add8 (a v : Byte) (c : Bool) : Result8 :=
  let res := a.toNat + v.toNat + c.toNat
  { res := BitVec.ofNat 8 res, z := BitVec.ofNat 8 res == 0, n := false,
    h := decide (lowNibble a + lowNibble v + c.toNat > 0x0F), c := decide (res > 0xFF) }

/-- A - v - c (R217 with c = 0, R218). -/
def sub8 (a v : Byte) (c : Bool) : Result8 :=
  let res : Int := (a.toNat : Int) - v.toNat - c.toNat
  { res := BitVec.ofInt 8 res, z := BitVec.ofInt 8 res == 0, n := true,
    h := decide (lowNibble a < lowNibble v + c.toNat), c := decide (a.toNat < v.toNat + c.toNat) }

/-- The result of a logical operation, H and C fixed (R219 to R221). -/
def logic8 (res : Byte) (h : Bool) : Result8 := { res := res, z := res == 0, n := false, h := h, c := false }

/-- An accumulator operation on A, the source operand v and the C flag (R214 to R222); CP leaves A as it is. -/
def alu (op : AluOp) (a v : Byte) (c : Bool) : Result8 :=
  match op with
  | .add => add8 a v false
  | .adc => add8 a v c
  | .sub => sub8 a v false
  | .sbc => sub8 a v c
  | .and => logic8 (a &&& v) true
  | .xor => logic8 (a ^^^ v) false
  | .or => logic8 (a ||| v) false
  | .cp => { sub8 a v false with res := a }

/-- The result and C of DAA (R223), from A, N, H and C. -/
def daaResult (a : Byte) (n h c : Bool) : Byte × Bool :=
  if n then
    let a1 := if c then a - 0x60 else a
    (if h then a1 - 0x06 else a1, c)
  else
    let high := c || decide (a.toNat > 0x99)
    let a1 := if high then a + 0x60 else a
    (if h || decide (lowNibble a1 > 0x09) then a1 + 0x06 else a1, high)

/-- The result and the bit moved out of a rotate, shift or swap of v with the C flag c (R250 to R253, R255 to R262). SWAP
moves nothing out: its C is 0 (R261). -/
def rotate (op : RotOp) (v : Byte) (c : Bool) : Byte × Bool :=
  match op with
  | .rlc => (v.extractLsb' 0 7 ++ v.extractLsb' 7 1, v.getLsbD 7)
  | .rrc => (v.extractLsb' 0 1 ++ v.extractLsb' 1 7, v.getLsbD 0)
  | .rl => (v.extractLsb' 0 7 ++ BitVec.ofBool c, v.getLsbD 7)
  | .rr => (BitVec.ofBool c ++ v.extractLsb' 1 7, v.getLsbD 0)
  | .sla => (v.extractLsb' 0 7 ++ 0#1, v.getLsbD 7)
  | .sra => (v.extractLsb' 7 1 ++ v.extractLsb' 1 7, v.getLsbD 0)
  | .swap => (v.extractLsb' 0 4 ++ v.extractLsb' 4 4, false)
  | .srl => (0#1 ++ v.extractLsb' 1 7, v.getLsbD 0)

/-- H of SP + e8 (R193, R243): the carry out of bit 3 of the unsigned addition of SP's low byte and the raw byte e. -/
def spHalfCarry (sp : Word) (e : Byte) : Bool := decide (sp.toNat % 16 + lowNibble e > 0x0F)

/-- C of SP + e8 (R193, R243): the carry out of bit 7 of that addition. -/
def spCarry (sp : Word) (e : Byte) : Bool := decide (sp.toNat % 256 + e.toNat > 0xFF)

/-- H of ADD HL,rr (R242): the carry out of bit 11. -/
def halfCarry16 (x y : Word) : Bool := decide (x.toNat % 4096 + y.toNat % 4096 > 0x0FFF)

/-- C of ADD HL,rr (R242): the carry out of bit 15. -/
def carry16 (x y : Word) : Bool := decide (x.toNat + y.toNat > 0xFFFF)

/-- Writing an accumulator operation's result: A and all four flags (R214). -/
def State.setAlu (s : State) (r : Result8) : State := (s.setReg8 .a r.res).setFlags r.z r.n r.h r.c

end Sys2Proof.Machine
end

