-- ==== Sys2Proof/Machine/Alu16.lean ====
section
/-! DEFINITION. The 16-bit arithmetic (spec/44_alu16.md). -/

namespace Sys2Proof.Machine

/-- INC rr (R240): no flag. -/
def inc16 (r : Reg16) (s : State) : Host.Outcome State Fault Refusal :=
  runInstr 1 2 (fun t => .ok (t.setReg16 r (t.reg16 r + 1))) s

/-- DEC rr (R241): no flag. -/
def dec16 (r : Reg16) (s : State) : Host.Outcome State Fault Refusal :=
  runInstr 1 2 (fun t => .ok (t.setReg16 r (t.reg16 r - 1))) s

/-- ADD HL,rr (R242): Z is unchanged. -/
def addHl (r : Reg16) (s : State) : Host.Outcome State Fault Refusal :=
  runInstr 1 2 (fun t => .ok ((t.setReg16 .hl (t.hl + t.reg16 r)).setFlags none (some false)
    (some (halfCarry16 t.hl (t.reg16 r))) (some (carry16 t.hl (t.reg16 r))))) s

/-- ADD SP,e8 (R243). -/
def addSp (e : Byte) (s : State) : Host.Outcome State Fault Refusal :=
  runInstr 2 4 (fun t => .ok ((t.setSp (t.sp + sext16 e)).setFlags (some false) (some false)
    (some (spHalfCarry t.sp e)) (some (spCarry t.sp e)))) s

/-! ## The meanings -/

/-- INC BC (R240). -/
def execIncBc (s : State) : Host.Outcome State Fault Refusal := inc16 .bc s

/-- ADD HL,BC (R242). -/
def execAddHlBc (s : State) : Host.Outcome State Fault Refusal := addHl .bc s

/-- DEC BC (R241). -/
def execDecBc (s : State) : Host.Outcome State Fault Refusal := dec16 .bc s

/-- INC DE (R240). -/
def execIncDe (s : State) : Host.Outcome State Fault Refusal := inc16 .de s

/-- ADD HL,DE (R242). -/
def execAddHlDe (s : State) : Host.Outcome State Fault Refusal := addHl .de s

/-- DEC DE (R241). -/
def execDecDe (s : State) : Host.Outcome State Fault Refusal := dec16 .de s

/-- INC HL (R240). -/
def execIncHl (s : State) : Host.Outcome State Fault Refusal := inc16 .hl s

/-- ADD HL,HL (R242). -/
def execAddHlHl (s : State) : Host.Outcome State Fault Refusal := addHl .hl s

/-- DEC HL (R241). -/
def execDecHl (s : State) : Host.Outcome State Fault Refusal := dec16 .hl s

/-- INC SP (R240). -/
def execIncSp (s : State) : Host.Outcome State Fault Refusal := inc16 .sp s

/-- ADD HL,SP (R242). -/
def execAddHlSp (s : State) : Host.Outcome State Fault Refusal := addHl .sp s

/-- DEC SP (R241). -/
def execDecSp (s : State) : Host.Outcome State Fault Refusal := dec16 .sp s

/-- ADD SP,e8 (R243). -/
def execAddSpE8 (e : Byte) (s : State) : Host.Outcome State Fault Refusal := addSp e s

end Sys2Proof.Machine
end

