-- ==== Sys2Proof/Machine/Alu8.lean ====
section
/-! DEFINITION. The 8-bit arithmetic and logic (spec/43_alu8.md). -/

namespace Sys2Proof.Machine

/-- INC r (R210) and INC (HL) (R211): C is unchanged. -/
def inc8 (o : Opnd8) (s : State) : Host.Outcome State Fault Refusal :=
  runInstr 1 (opndCost o 1 3) (fun t =>
    match readOpnd t o with
    | .error e => .error e
    | .ok v => (writeOpnd t o (v + 1)).map fun u =>
        u.setFlags (some (v + 1 == 0)) (some false) (some (decide (lowNibble v = 0x0F))) none) s

/-- DEC r (R212) and DEC (HL) (R213): C is unchanged. -/
def dec8 (o : Opnd8) (s : State) : Host.Outcome State Fault Refusal :=
  runInstr 1 (opndCost o 1 3) (fun t =>
    match readOpnd t o with
    | .error e => .error e
    | .ok v => (writeOpnd t o (v - 1)).map fun u =>
        u.setFlags (some (v - 1 == 0)) (some true) (some (decide (lowNibble v = 0x00))) none) s

/-- An accumulator operation in its register and (HL) forms (R214). -/
def aluOpnd (op : AluOp) (o : Opnd8) (s : State) : Host.Outcome State Fault Refusal :=
  runInstr 1 (opndCost o 1 2) (fun t => (readOpnd t o).map fun v => t.setAlu (alu op t.a v t.flagC)) s

/-- An accumulator operation in its immediate form (R214). -/
def aluImm (op : AluOp) (n : Byte) (s : State) : Host.Outcome State Fault Refusal :=
  runInstr 2 2 (fun t => .ok (t.setAlu (alu op t.a n t.flagC))) s

/-- DAA (R223): N is kept, H is cleared. -/
def decimalAdjust (s : State) : Host.Outcome State Fault Refusal :=
  runInstr 1 1 (fun t =>
    let r := daaResult t.a t.flagN t.flagH t.flagC
    .ok ((t.setReg8 .a r.1).setFlags (some (r.1 == 0)) none (some false) (some r.2))) s

/-- CPL (R224). -/
def complementA (s : State) : Host.Outcome State Fault Refusal :=
  runInstr 1 1 (fun t => .ok ((t.setReg8 .a (~~~t.a)).setFlags none (some true) (some true) none)) s

/-- SCF (R225). -/
def setCarry (s : State) : Host.Outcome State Fault Refusal :=
  runInstr 1 1 (fun t => .ok (t.setFlags none (some false) (some false) (some true))) s

/-- CCF (R226). -/
def complementCarry (s : State) : Host.Outcome State Fault Refusal :=
  runInstr 1 1 (fun t => .ok (t.setFlags none (some false) (some false) (some (!t.flagC)))) s

/-! ## The meanings -/

/-- INC B (R210). -/
def execIncB (s : State) : Host.Outcome State Fault Refusal := inc8 (.reg .b) s

/-- DEC B (R212). -/
def execDecB (s : State) : Host.Outcome State Fault Refusal := dec8 (.reg .b) s

/-- INC C (R210). -/
def execIncC (s : State) : Host.Outcome State Fault Refusal := inc8 (.reg .c) s

/-- DEC C (R212). -/
def execDecC (s : State) : Host.Outcome State Fault Refusal := dec8 (.reg .c) s

/-- INC D (R210). -/
def execIncD (s : State) : Host.Outcome State Fault Refusal := inc8 (.reg .d) s

/-- DEC D (R212). -/
def execDecD (s : State) : Host.Outcome State Fault Refusal := dec8 (.reg .d) s

/-- INC E (R210). -/
def execIncE (s : State) : Host.Outcome State Fault Refusal := inc8 (.reg .e) s

/-- DEC E (R212). -/
def execDecE (s : State) : Host.Outcome State Fault Refusal := dec8 (.reg .e) s

/-- INC H (R210). -/
def execIncH (s : State) : Host.Outcome State Fault Refusal := inc8 (.reg .h) s

/-- DEC H (R212). -/
def execDecH (s : State) : Host.Outcome State Fault Refusal := dec8 (.reg .h) s

/-- DAA (R223). -/
def execDaa (s : State) : Host.Outcome State Fault Refusal := decimalAdjust s

/-- INC L (R210). -/
def execIncL (s : State) : Host.Outcome State Fault Refusal := inc8 (.reg .l) s

/-- DEC L (R212). -/
def execDecL (s : State) : Host.Outcome State Fault Refusal := dec8 (.reg .l) s

/-- CPL (R224). -/
def execCpl (s : State) : Host.Outcome State Fault Refusal := complementA s

/-- INC (HL) (R211). -/
def execIncAtHl (s : State) : Host.Outcome State Fault Refusal := inc8 .atHl s

/-- DEC (HL) (R213). -/
def execDecAtHl (s : State) : Host.Outcome State Fault Refusal := dec8 .atHl s

/-- SCF (R225). -/
def execScf (s : State) : Host.Outcome State Fault Refusal := setCarry s

/-- INC A (R210). -/
def execIncA (s : State) : Host.Outcome State Fault Refusal := inc8 (.reg .a) s

/-- DEC A (R212). -/
def execDecA (s : State) : Host.Outcome State Fault Refusal := dec8 (.reg .a) s

/-- CCF (R226). -/
def execCcf (s : State) : Host.Outcome State Fault Refusal := complementCarry s

/-- ADD A,B (R215). -/
def execAddAB (s : State) : Host.Outcome State Fault Refusal := aluOpnd .add (.reg .b) s

/-- ADD A,C (R215). -/
def execAddAC (s : State) : Host.Outcome State Fault Refusal := aluOpnd .add (.reg .c) s

/-- ADD A,D (R215). -/
def execAddAD (s : State) : Host.Outcome State Fault Refusal := aluOpnd .add (.reg .d) s

/-- ADD A,E (R215). -/
def execAddAE (s : State) : Host.Outcome State Fault Refusal := aluOpnd .add (.reg .e) s

/-- ADD A,H (R215). -/
def execAddAH (s : State) : Host.Outcome State Fault Refusal := aluOpnd .add (.reg .h) s

/-- ADD A,L (R215). -/
def execAddAL (s : State) : Host.Outcome State Fault Refusal := aluOpnd .add (.reg .l) s

/-- ADD A,(HL) (R215). -/
def execAddAAtHl (s : State) : Host.Outcome State Fault Refusal := aluOpnd .add .atHl s

/-- ADD A,A (R215). -/
def execAddAA (s : State) : Host.Outcome State Fault Refusal := aluOpnd .add (.reg .a) s

/-- ADC A,B (R216). -/
def execAdcAB (s : State) : Host.Outcome State Fault Refusal := aluOpnd .adc (.reg .b) s

/-- ADC A,C (R216). -/
def execAdcAC (s : State) : Host.Outcome State Fault Refusal := aluOpnd .adc (.reg .c) s

/-- ADC A,D (R216). -/
def execAdcAD (s : State) : Host.Outcome State Fault Refusal := aluOpnd .adc (.reg .d) s

/-- ADC A,E (R216). -/
def execAdcAE (s : State) : Host.Outcome State Fault Refusal := aluOpnd .adc (.reg .e) s

/-- ADC A,H (R216). -/
def execAdcAH (s : State) : Host.Outcome State Fault Refusal := aluOpnd .adc (.reg .h) s

/-- ADC A,L (R216). -/
def execAdcAL (s : State) : Host.Outcome State Fault Refusal := aluOpnd .adc (.reg .l) s

/-- ADC A,(HL) (R216). -/
def execAdcAAtHl (s : State) : Host.Outcome State Fault Refusal := aluOpnd .adc .atHl s

/-- ADC A,A (R216). -/
def execAdcAA (s : State) : Host.Outcome State Fault Refusal := aluOpnd .adc (.reg .a) s

/-- SUB B (R217). -/
def execSubB (s : State) : Host.Outcome State Fault Refusal := aluOpnd .sub (.reg .b) s

/-- SUB C (R217). -/
def execSubC (s : State) : Host.Outcome State Fault Refusal := aluOpnd .sub (.reg .c) s

/-- SUB D (R217). -/
def execSubD (s : State) : Host.Outcome State Fault Refusal := aluOpnd .sub (.reg .d) s

/-- SUB E (R217). -/
def execSubE (s : State) : Host.Outcome State Fault Refusal := aluOpnd .sub (.reg .e) s

/-- SUB H (R217). -/
def execSubH (s : State) : Host.Outcome State Fault Refusal := aluOpnd .sub (.reg .h) s

/-- SUB L (R217). -/
def execSubL (s : State) : Host.Outcome State Fault Refusal := aluOpnd .sub (.reg .l) s

/-- SUB (HL) (R217). -/
def execSubAtHl (s : State) : Host.Outcome State Fault Refusal := aluOpnd .sub .atHl s

/-- SUB A (R217). -/
def execSubA (s : State) : Host.Outcome State Fault Refusal := aluOpnd .sub (.reg .a) s

/-- SBC A,B (R218). -/
def execSbcAB (s : State) : Host.Outcome State Fault Refusal := aluOpnd .sbc (.reg .b) s

/-- SBC A,C (R218). -/
def execSbcAC (s : State) : Host.Outcome State Fault Refusal := aluOpnd .sbc (.reg .c) s

/-- SBC A,D (R218). -/
def execSbcAD (s : State) : Host.Outcome State Fault Refusal := aluOpnd .sbc (.reg .d) s

/-- SBC A,E (R218). -/
def execSbcAE (s : State) : Host.Outcome State Fault Refusal := aluOpnd .sbc (.reg .e) s

/-- SBC A,H (R218). -/
def execSbcAH (s : State) : Host.Outcome State Fault Refusal := aluOpnd .sbc (.reg .h) s

/-- SBC A,L (R218). -/
def execSbcAL (s : State) : Host.Outcome State Fault Refusal := aluOpnd .sbc (.reg .l) s

/-- SBC A,(HL) (R218). -/
def execSbcAAtHl (s : State) : Host.Outcome State Fault Refusal := aluOpnd .sbc .atHl s

/-- SBC A,A (R218). -/
def execSbcAA (s : State) : Host.Outcome State Fault Refusal := aluOpnd .sbc (.reg .a) s

/-- AND B (R219). -/
def execAndB (s : State) : Host.Outcome State Fault Refusal := aluOpnd .and (.reg .b) s

/-- AND C (R219). -/
def execAndC (s : State) : Host.Outcome State Fault Refusal := aluOpnd .and (.reg .c) s

/-- AND D (R219). -/
def execAndD (s : State) : Host.Outcome State Fault Refusal := aluOpnd .and (.reg .d) s

/-- AND E (R219). -/
def execAndE (s : State) : Host.Outcome State Fault Refusal := aluOpnd .and (.reg .e) s

/-- AND H (R219). -/
def execAndH (s : State) : Host.Outcome State Fault Refusal := aluOpnd .and (.reg .h) s

/-- AND L (R219). -/
def execAndL (s : State) : Host.Outcome State Fault Refusal := aluOpnd .and (.reg .l) s

/-- AND (HL) (R219). -/
def execAndAtHl (s : State) : Host.Outcome State Fault Refusal := aluOpnd .and .atHl s

/-- AND A (R219). -/
def execAndA (s : State) : Host.Outcome State Fault Refusal := aluOpnd .and (.reg .a) s

/-- XOR B (R220). -/
def execXorB (s : State) : Host.Outcome State Fault Refusal := aluOpnd .xor (.reg .b) s

/-- XOR C (R220). -/
def execXorC (s : State) : Host.Outcome State Fault Refusal := aluOpnd .xor (.reg .c) s

/-- XOR D (R220). -/
def execXorD (s : State) : Host.Outcome State Fault Refusal := aluOpnd .xor (.reg .d) s

/-- XOR E (R220). -/
def execXorE (s : State) : Host.Outcome State Fault Refusal := aluOpnd .xor (.reg .e) s

/-- XOR H (R220). -/
def execXorH (s : State) : Host.Outcome State Fault Refusal := aluOpnd .xor (.reg .h) s

/-- XOR L (R220). -/
def execXorL (s : State) : Host.Outcome State Fault Refusal := aluOpnd .xor (.reg .l) s

/-- XOR (HL) (R220). -/
def execXorAtHl (s : State) : Host.Outcome State Fault Refusal := aluOpnd .xor .atHl s

/-- XOR A (R220). -/
def execXorA (s : State) : Host.Outcome State Fault Refusal := aluOpnd .xor (.reg .a) s

/-- OR B (R221). -/
def execOrB (s : State) : Host.Outcome State Fault Refusal := aluOpnd .or (.reg .b) s

/-- OR C (R221). -/
def execOrC (s : State) : Host.Outcome State Fault Refusal := aluOpnd .or (.reg .c) s

/-- OR D (R221). -/
def execOrD (s : State) : Host.Outcome State Fault Refusal := aluOpnd .or (.reg .d) s

/-- OR E (R221). -/
def execOrE (s : State) : Host.Outcome State Fault Refusal := aluOpnd .or (.reg .e) s

/-- OR H (R221). -/
def execOrH (s : State) : Host.Outcome State Fault Refusal := aluOpnd .or (.reg .h) s

/-- OR L (R221). -/
def execOrL (s : State) : Host.Outcome State Fault Refusal := aluOpnd .or (.reg .l) s

/-- OR (HL) (R221). -/
def execOrAtHl (s : State) : Host.Outcome State Fault Refusal := aluOpnd .or .atHl s

/-- OR A (R221). -/
def execOrA (s : State) : Host.Outcome State Fault Refusal := aluOpnd .or (.reg .a) s

/-- CP B (R222). -/
def execCpB (s : State) : Host.Outcome State Fault Refusal := aluOpnd .cp (.reg .b) s

/-- CP C (R222). -/
def execCpC (s : State) : Host.Outcome State Fault Refusal := aluOpnd .cp (.reg .c) s

/-- CP D (R222). -/
def execCpD (s : State) : Host.Outcome State Fault Refusal := aluOpnd .cp (.reg .d) s

/-- CP E (R222). -/
def execCpE (s : State) : Host.Outcome State Fault Refusal := aluOpnd .cp (.reg .e) s

/-- CP H (R222). -/
def execCpH (s : State) : Host.Outcome State Fault Refusal := aluOpnd .cp (.reg .h) s

/-- CP L (R222). -/
def execCpL (s : State) : Host.Outcome State Fault Refusal := aluOpnd .cp (.reg .l) s

/-- CP (HL) (R222). -/
def execCpAtHl (s : State) : Host.Outcome State Fault Refusal := aluOpnd .cp .atHl s

/-- CP A (R222). -/
def execCpA (s : State) : Host.Outcome State Fault Refusal := aluOpnd .cp (.reg .a) s

/-- ADD A,d8 (R215). -/
def execAddAD8 (n : Byte) (s : State) : Host.Outcome State Fault Refusal := aluImm .add n s

/-- ADC A,d8 (R216). -/
def execAdcAD8 (n : Byte) (s : State) : Host.Outcome State Fault Refusal := aluImm .adc n s

/-- SUB d8 (R217). -/
def execSubD8 (n : Byte) (s : State) : Host.Outcome State Fault Refusal := aluImm .sub n s

/-- SBC A,d8 (R218). -/
def execSbcAD8 (n : Byte) (s : State) : Host.Outcome State Fault Refusal := aluImm .sbc n s

/-- AND d8 (R219). -/
def execAndD8 (n : Byte) (s : State) : Host.Outcome State Fault Refusal := aluImm .and n s

/-- XOR d8 (R220). -/
def execXorD8 (n : Byte) (s : State) : Host.Outcome State Fault Refusal := aluImm .xor n s

/-- OR d8 (R221). -/
def execOrD8 (n : Byte) (s : State) : Host.Outcome State Fault Refusal := aluImm .or n s

/-- CP d8 (R222). -/
def execCpD8 (n : Byte) (s : State) : Host.Outcome State Fault Refusal := aluImm .cp n s

end Sys2Proof.Machine
end

