-- ==== Sys2Proof/Machine/Bit.lean ====
section
/-! DEFINITION. The single-bit operations (spec/46_bit.md). -/

namespace Sys2Proof.Machine

/-- v with bit b clear: v AND NOT (1 << b) (R271). -/
def clearBit (b : Idx8) (v : Byte) : Byte := v &&& ~~~(1#8 <<< b.toNat)

/-- v with bit b set: v OR (1 << b) (R272). -/
def setBit (b : Idx8) (v : Byte) : Byte := v ||| (1#8 <<< b.toNat)

/-- BIT b,r and BIT b,(HL) (R270): the operand is not written, C is unchanged. -/
def bitOpnd (b : Idx8) (o : Opnd8) (s : State) : Host.Outcome State Fault Refusal :=
  runInstr 2 (opndCost o 2 3) (fun t => (readOpnd t o).map fun v =>
    t.setFlags (some (!v.getLsbD b.toNat)) (some false) (some true) none) s

/-- RES b,r and RES b,(HL) (R271): the write is made even when the bit is clear. -/
def resOpnd (b : Idx8) (o : Opnd8) (s : State) : Host.Outcome State Fault Refusal :=
  runInstr 2 (opndCost o 2 4) (fun t =>
    match readOpnd t o with
    | .error e => .error e
    | .ok v => writeOpnd t o (clearBit b v)) s

/-- SET b,r and SET b,(HL) (R272): the write is made even when the bit is set. -/
def setOpnd (b : Idx8) (o : Opnd8) (s : State) : Host.Outcome State Fault Refusal :=
  runInstr 2 (opndCost o 2 4) (fun t =>
    match readOpnd t o with
    | .error e => .error e
    | .ok v => writeOpnd t o (setBit b v)) s

/-! ## The meanings -/

/-- BIT 0,B (R270). -/
def execBit0B (s : State) : Host.Outcome State Fault Refusal := bitOpnd .i0 (.reg .b) s

/-- BIT 0,C (R270). -/
def execBit0C (s : State) : Host.Outcome State Fault Refusal := bitOpnd .i0 (.reg .c) s

/-- BIT 0,D (R270). -/
def execBit0D (s : State) : Host.Outcome State Fault Refusal := bitOpnd .i0 (.reg .d) s

/-- BIT 0,E (R270). -/
def execBit0E (s : State) : Host.Outcome State Fault Refusal := bitOpnd .i0 (.reg .e) s

/-- BIT 0,H (R270). -/
def execBit0H (s : State) : Host.Outcome State Fault Refusal := bitOpnd .i0 (.reg .h) s

/-- BIT 0,L (R270). -/
def execBit0L (s : State) : Host.Outcome State Fault Refusal := bitOpnd .i0 (.reg .l) s

/-- BIT 0,(HL) (R270). -/
def execBit0AtHl (s : State) : Host.Outcome State Fault Refusal := bitOpnd .i0 .atHl s

/-- BIT 0,A (R270). -/
def execBit0A (s : State) : Host.Outcome State Fault Refusal := bitOpnd .i0 (.reg .a) s

/-- BIT 1,B (R270). -/
def execBit1B (s : State) : Host.Outcome State Fault Refusal := bitOpnd .i1 (.reg .b) s

/-- BIT 1,C (R270). -/
def execBit1C (s : State) : Host.Outcome State Fault Refusal := bitOpnd .i1 (.reg .c) s

/-- BIT 1,D (R270). -/
def execBit1D (s : State) : Host.Outcome State Fault Refusal := bitOpnd .i1 (.reg .d) s

/-- BIT 1,E (R270). -/
def execBit1E (s : State) : Host.Outcome State Fault Refusal := bitOpnd .i1 (.reg .e) s

/-- BIT 1,H (R270). -/
def execBit1H (s : State) : Host.Outcome State Fault Refusal := bitOpnd .i1 (.reg .h) s

/-- BIT 1,L (R270). -/
def execBit1L (s : State) : Host.Outcome State Fault Refusal := bitOpnd .i1 (.reg .l) s

/-- BIT 1,(HL) (R270). -/
def execBit1AtHl (s : State) : Host.Outcome State Fault Refusal := bitOpnd .i1 .atHl s

/-- BIT 1,A (R270). -/
def execBit1A (s : State) : Host.Outcome State Fault Refusal := bitOpnd .i1 (.reg .a) s

/-- BIT 2,B (R270). -/
def execBit2B (s : State) : Host.Outcome State Fault Refusal := bitOpnd .i2 (.reg .b) s

/-- BIT 2,C (R270). -/
def execBit2C (s : State) : Host.Outcome State Fault Refusal := bitOpnd .i2 (.reg .c) s

/-- BIT 2,D (R270). -/
def execBit2D (s : State) : Host.Outcome State Fault Refusal := bitOpnd .i2 (.reg .d) s

/-- BIT 2,E (R270). -/
def execBit2E (s : State) : Host.Outcome State Fault Refusal := bitOpnd .i2 (.reg .e) s

/-- BIT 2,H (R270). -/
def execBit2H (s : State) : Host.Outcome State Fault Refusal := bitOpnd .i2 (.reg .h) s

/-- BIT 2,L (R270). -/
def execBit2L (s : State) : Host.Outcome State Fault Refusal := bitOpnd .i2 (.reg .l) s

/-- BIT 2,(HL) (R270). -/
def execBit2AtHl (s : State) : Host.Outcome State Fault Refusal := bitOpnd .i2 .atHl s

/-- BIT 2,A (R270). -/
def execBit2A (s : State) : Host.Outcome State Fault Refusal := bitOpnd .i2 (.reg .a) s

/-- BIT 3,B (R270). -/
def execBit3B (s : State) : Host.Outcome State Fault Refusal := bitOpnd .i3 (.reg .b) s

/-- BIT 3,C (R270). -/
def execBit3C (s : State) : Host.Outcome State Fault Refusal := bitOpnd .i3 (.reg .c) s

/-- BIT 3,D (R270). -/
def execBit3D (s : State) : Host.Outcome State Fault Refusal := bitOpnd .i3 (.reg .d) s

/-- BIT 3,E (R270). -/
def execBit3E (s : State) : Host.Outcome State Fault Refusal := bitOpnd .i3 (.reg .e) s

/-- BIT 3,H (R270). -/
def execBit3H (s : State) : Host.Outcome State Fault Refusal := bitOpnd .i3 (.reg .h) s

/-- BIT 3,L (R270). -/
def execBit3L (s : State) : Host.Outcome State Fault Refusal := bitOpnd .i3 (.reg .l) s

/-- BIT 3,(HL) (R270). -/
def execBit3AtHl (s : State) : Host.Outcome State Fault Refusal := bitOpnd .i3 .atHl s

/-- BIT 3,A (R270). -/
def execBit3A (s : State) : Host.Outcome State Fault Refusal := bitOpnd .i3 (.reg .a) s

/-- BIT 4,B (R270). -/
def execBit4B (s : State) : Host.Outcome State Fault Refusal := bitOpnd .i4 (.reg .b) s

/-- BIT 4,C (R270). -/
def execBit4C (s : State) : Host.Outcome State Fault Refusal := bitOpnd .i4 (.reg .c) s

/-- BIT 4,D (R270). -/
def execBit4D (s : State) : Host.Outcome State Fault Refusal := bitOpnd .i4 (.reg .d) s

/-- BIT 4,E (R270). -/
def execBit4E (s : State) : Host.Outcome State Fault Refusal := bitOpnd .i4 (.reg .e) s

/-- BIT 4,H (R270). -/
def execBit4H (s : State) : Host.Outcome State Fault Refusal := bitOpnd .i4 (.reg .h) s

/-- BIT 4,L (R270). -/
def execBit4L (s : State) : Host.Outcome State Fault Refusal := bitOpnd .i4 (.reg .l) s

/-- BIT 4,(HL) (R270). -/
def execBit4AtHl (s : State) : Host.Outcome State Fault Refusal := bitOpnd .i4 .atHl s

/-- BIT 4,A (R270). -/
def execBit4A (s : State) : Host.Outcome State Fault Refusal := bitOpnd .i4 (.reg .a) s

/-- BIT 5,B (R270). -/
def execBit5B (s : State) : Host.Outcome State Fault Refusal := bitOpnd .i5 (.reg .b) s

/-- BIT 5,C (R270). -/
def execBit5C (s : State) : Host.Outcome State Fault Refusal := bitOpnd .i5 (.reg .c) s

/-- BIT 5,D (R270). -/
def execBit5D (s : State) : Host.Outcome State Fault Refusal := bitOpnd .i5 (.reg .d) s

/-- BIT 5,E (R270). -/
def execBit5E (s : State) : Host.Outcome State Fault Refusal := bitOpnd .i5 (.reg .e) s

/-- BIT 5,H (R270). -/
def execBit5H (s : State) : Host.Outcome State Fault Refusal := bitOpnd .i5 (.reg .h) s

/-- BIT 5,L (R270). -/
def execBit5L (s : State) : Host.Outcome State Fault Refusal := bitOpnd .i5 (.reg .l) s

/-- BIT 5,(HL) (R270). -/
def execBit5AtHl (s : State) : Host.Outcome State Fault Refusal := bitOpnd .i5 .atHl s

/-- BIT 5,A (R270). -/
def execBit5A (s : State) : Host.Outcome State Fault Refusal := bitOpnd .i5 (.reg .a) s

/-- BIT 6,B (R270). -/
def execBit6B (s : State) : Host.Outcome State Fault Refusal := bitOpnd .i6 (.reg .b) s

/-- BIT 6,C (R270). -/
def execBit6C (s : State) : Host.Outcome State Fault Refusal := bitOpnd .i6 (.reg .c) s

/-- BIT 6,D (R270). -/
def execBit6D (s : State) : Host.Outcome State Fault Refusal := bitOpnd .i6 (.reg .d) s

/-- BIT 6,E (R270). -/
def execBit6E (s : State) : Host.Outcome State Fault Refusal := bitOpnd .i6 (.reg .e) s

/-- BIT 6,H (R270). -/
def execBit6H (s : State) : Host.Outcome State Fault Refusal := bitOpnd .i6 (.reg .h) s

/-- BIT 6,L (R270). -/
def execBit6L (s : State) : Host.Outcome State Fault Refusal := bitOpnd .i6 (.reg .l) s

/-- BIT 6,(HL) (R270). -/
def execBit6AtHl (s : State) : Host.Outcome State Fault Refusal := bitOpnd .i6 .atHl s

/-- BIT 6,A (R270). -/
def execBit6A (s : State) : Host.Outcome State Fault Refusal := bitOpnd .i6 (.reg .a) s

/-- BIT 7,B (R270). -/
def execBit7B (s : State) : Host.Outcome State Fault Refusal := bitOpnd .i7 (.reg .b) s

/-- BIT 7,C (R270). -/
def execBit7C (s : State) : Host.Outcome State Fault Refusal := bitOpnd .i7 (.reg .c) s

/-- BIT 7,D (R270). -/
def execBit7D (s : State) : Host.Outcome State Fault Refusal := bitOpnd .i7 (.reg .d) s

/-- BIT 7,E (R270). -/
def execBit7E (s : State) : Host.Outcome State Fault Refusal := bitOpnd .i7 (.reg .e) s

/-- BIT 7,H (R270). -/
def execBit7H (s : State) : Host.Outcome State Fault Refusal := bitOpnd .i7 (.reg .h) s

/-- BIT 7,L (R270). -/
def execBit7L (s : State) : Host.Outcome State Fault Refusal := bitOpnd .i7 (.reg .l) s

/-- BIT 7,(HL) (R270). -/
def execBit7AtHl (s : State) : Host.Outcome State Fault Refusal := bitOpnd .i7 .atHl s

/-- BIT 7,A (R270). -/
def execBit7A (s : State) : Host.Outcome State Fault Refusal := bitOpnd .i7 (.reg .a) s

/-- RES 0,B (R271). -/
def execRes0B (s : State) : Host.Outcome State Fault Refusal := resOpnd .i0 (.reg .b) s

/-- RES 0,C (R271). -/
def execRes0C (s : State) : Host.Outcome State Fault Refusal := resOpnd .i0 (.reg .c) s

/-- RES 0,D (R271). -/
def execRes0D (s : State) : Host.Outcome State Fault Refusal := resOpnd .i0 (.reg .d) s

/-- RES 0,E (R271). -/
def execRes0E (s : State) : Host.Outcome State Fault Refusal := resOpnd .i0 (.reg .e) s

/-- RES 0,H (R271). -/
def execRes0H (s : State) : Host.Outcome State Fault Refusal := resOpnd .i0 (.reg .h) s

/-- RES 0,L (R271). -/
def execRes0L (s : State) : Host.Outcome State Fault Refusal := resOpnd .i0 (.reg .l) s

/-- RES 0,(HL) (R271). -/
def execRes0AtHl (s : State) : Host.Outcome State Fault Refusal := resOpnd .i0 .atHl s

/-- RES 0,A (R271). -/
def execRes0A (s : State) : Host.Outcome State Fault Refusal := resOpnd .i0 (.reg .a) s

/-- RES 1,B (R271). -/
def execRes1B (s : State) : Host.Outcome State Fault Refusal := resOpnd .i1 (.reg .b) s

/-- RES 1,C (R271). -/
def execRes1C (s : State) : Host.Outcome State Fault Refusal := resOpnd .i1 (.reg .c) s

/-- RES 1,D (R271). -/
def execRes1D (s : State) : Host.Outcome State Fault Refusal := resOpnd .i1 (.reg .d) s

/-- RES 1,E (R271). -/
def execRes1E (s : State) : Host.Outcome State Fault Refusal := resOpnd .i1 (.reg .e) s

/-- RES 1,H (R271). -/
def execRes1H (s : State) : Host.Outcome State Fault Refusal := resOpnd .i1 (.reg .h) s

/-- RES 1,L (R271). -/
def execRes1L (s : State) : Host.Outcome State Fault Refusal := resOpnd .i1 (.reg .l) s

/-- RES 1,(HL) (R271). -/
def execRes1AtHl (s : State) : Host.Outcome State Fault Refusal := resOpnd .i1 .atHl s

/-- RES 1,A (R271). -/
def execRes1A (s : State) : Host.Outcome State Fault Refusal := resOpnd .i1 (.reg .a) s

/-- RES 2,B (R271). -/
def execRes2B (s : State) : Host.Outcome State Fault Refusal := resOpnd .i2 (.reg .b) s

/-- RES 2,C (R271). -/
def execRes2C (s : State) : Host.Outcome State Fault Refusal := resOpnd .i2 (.reg .c) s

/-- RES 2,D (R271). -/
def execRes2D (s : State) : Host.Outcome State Fault Refusal := resOpnd .i2 (.reg .d) s

/-- RES 2,E (R271). -/
def execRes2E (s : State) : Host.Outcome State Fault Refusal := resOpnd .i2 (.reg .e) s

/-- RES 2,H (R271). -/
def execRes2H (s : State) : Host.Outcome State Fault Refusal := resOpnd .i2 (.reg .h) s

/-- RES 2,L (R271). -/
def execRes2L (s : State) : Host.Outcome State Fault Refusal := resOpnd .i2 (.reg .l) s

/-- RES 2,(HL) (R271). -/
def execRes2AtHl (s : State) : Host.Outcome State Fault Refusal := resOpnd .i2 .atHl s

/-- RES 2,A (R271). -/
def execRes2A (s : State) : Host.Outcome State Fault Refusal := resOpnd .i2 (.reg .a) s

/-- RES 3,B (R271). -/
def execRes3B (s : State) : Host.Outcome State Fault Refusal := resOpnd .i3 (.reg .b) s

/-- RES 3,C (R271). -/
def execRes3C (s : State) : Host.Outcome State Fault Refusal := resOpnd .i3 (.reg .c) s

/-- RES 3,D (R271). -/
def execRes3D (s : State) : Host.Outcome State Fault Refusal := resOpnd .i3 (.reg .d) s

/-- RES 3,E (R271). -/
def execRes3E (s : State) : Host.Outcome State Fault Refusal := resOpnd .i3 (.reg .e) s

/-- RES 3,H (R271). -/
def execRes3H (s : State) : Host.Outcome State Fault Refusal := resOpnd .i3 (.reg .h) s

/-- RES 3,L (R271). -/
def execRes3L (s : State) : Host.Outcome State Fault Refusal := resOpnd .i3 (.reg .l) s

/-- RES 3,(HL) (R271). -/
def execRes3AtHl (s : State) : Host.Outcome State Fault Refusal := resOpnd .i3 .atHl s

/-- RES 3,A (R271). -/
def execRes3A (s : State) : Host.Outcome State Fault Refusal := resOpnd .i3 (.reg .a) s

/-- RES 4,B (R271). -/
def execRes4B (s : State) : Host.Outcome State Fault Refusal := resOpnd .i4 (.reg .b) s

/-- RES 4,C (R271). -/
def execRes4C (s : State) : Host.Outcome State Fault Refusal := resOpnd .i4 (.reg .c) s

/-- RES 4,D (R271). -/
def execRes4D (s : State) : Host.Outcome State Fault Refusal := resOpnd .i4 (.reg .d) s

/-- RES 4,E (R271). -/
def execRes4E (s : State) : Host.Outcome State Fault Refusal := resOpnd .i4 (.reg .e) s

/-- RES 4,H (R271). -/
def execRes4H (s : State) : Host.Outcome State Fault Refusal := resOpnd .i4 (.reg .h) s

/-- RES 4,L (R271). -/
def execRes4L (s : State) : Host.Outcome State Fault Refusal := resOpnd .i4 (.reg .l) s

/-- RES 4,(HL) (R271). -/
def execRes4AtHl (s : State) : Host.Outcome State Fault Refusal := resOpnd .i4 .atHl s

/-- RES 4,A (R271). -/
def execRes4A (s : State) : Host.Outcome State Fault Refusal := resOpnd .i4 (.reg .a) s

/-- RES 5,B (R271). -/
def execRes5B (s : State) : Host.Outcome State Fault Refusal := resOpnd .i5 (.reg .b) s

/-- RES 5,C (R271). -/
def execRes5C (s : State) : Host.Outcome State Fault Refusal := resOpnd .i5 (.reg .c) s

/-- RES 5,D (R271). -/
def execRes5D (s : State) : Host.Outcome State Fault Refusal := resOpnd .i5 (.reg .d) s

/-- RES 5,E (R271). -/
def execRes5E (s : State) : Host.Outcome State Fault Refusal := resOpnd .i5 (.reg .e) s

/-- RES 5,H (R271). -/
def execRes5H (s : State) : Host.Outcome State Fault Refusal := resOpnd .i5 (.reg .h) s

/-- RES 5,L (R271). -/
def execRes5L (s : State) : Host.Outcome State Fault Refusal := resOpnd .i5 (.reg .l) s

/-- RES 5,(HL) (R271). -/
def execRes5AtHl (s : State) : Host.Outcome State Fault Refusal := resOpnd .i5 .atHl s

/-- RES 5,A (R271). -/
def execRes5A (s : State) : Host.Outcome State Fault Refusal := resOpnd .i5 (.reg .a) s

/-- RES 6,B (R271). -/
def execRes6B (s : State) : Host.Outcome State Fault Refusal := resOpnd .i6 (.reg .b) s

/-- RES 6,C (R271). -/
def execRes6C (s : State) : Host.Outcome State Fault Refusal := resOpnd .i6 (.reg .c) s

/-- RES 6,D (R271). -/
def execRes6D (s : State) : Host.Outcome State Fault Refusal := resOpnd .i6 (.reg .d) s

/-- RES 6,E (R271). -/
def execRes6E (s : State) : Host.Outcome State Fault Refusal := resOpnd .i6 (.reg .e) s

/-- RES 6,H (R271). -/
def execRes6H (s : State) : Host.Outcome State Fault Refusal := resOpnd .i6 (.reg .h) s

/-- RES 6,L (R271). -/
def execRes6L (s : State) : Host.Outcome State Fault Refusal := resOpnd .i6 (.reg .l) s

/-- RES 6,(HL) (R271). -/
def execRes6AtHl (s : State) : Host.Outcome State Fault Refusal := resOpnd .i6 .atHl s

/-- RES 6,A (R271). -/
def execRes6A (s : State) : Host.Outcome State Fault Refusal := resOpnd .i6 (.reg .a) s

/-- RES 7,B (R271). -/
def execRes7B (s : State) : Host.Outcome State Fault Refusal := resOpnd .i7 (.reg .b) s

/-- RES 7,C (R271). -/
def execRes7C (s : State) : Host.Outcome State Fault Refusal := resOpnd .i7 (.reg .c) s

/-- RES 7,D (R271). -/
def execRes7D (s : State) : Host.Outcome State Fault Refusal := resOpnd .i7 (.reg .d) s

/-- RES 7,E (R271). -/
def execRes7E (s : State) : Host.Outcome State Fault Refusal := resOpnd .i7 (.reg .e) s

/-- RES 7,H (R271). -/
def execRes7H (s : State) : Host.Outcome State Fault Refusal := resOpnd .i7 (.reg .h) s

/-- RES 7,L (R271). -/
def execRes7L (s : State) : Host.Outcome State Fault Refusal := resOpnd .i7 (.reg .l) s

/-- RES 7,(HL) (R271). -/
def execRes7AtHl (s : State) : Host.Outcome State Fault Refusal := resOpnd .i7 .atHl s

/-- RES 7,A (R271). -/
def execRes7A (s : State) : Host.Outcome State Fault Refusal := resOpnd .i7 (.reg .a) s

/-- SET 0,B (R272). -/
def execSet0B (s : State) : Host.Outcome State Fault Refusal := setOpnd .i0 (.reg .b) s

/-- SET 0,C (R272). -/
def execSet0C (s : State) : Host.Outcome State Fault Refusal := setOpnd .i0 (.reg .c) s

/-- SET 0,D (R272). -/
def execSet0D (s : State) : Host.Outcome State Fault Refusal := setOpnd .i0 (.reg .d) s

/-- SET 0,E (R272). -/
def execSet0E (s : State) : Host.Outcome State Fault Refusal := setOpnd .i0 (.reg .e) s

/-- SET 0,H (R272). -/
def execSet0H (s : State) : Host.Outcome State Fault Refusal := setOpnd .i0 (.reg .h) s

/-- SET 0,L (R272). -/
def execSet0L (s : State) : Host.Outcome State Fault Refusal := setOpnd .i0 (.reg .l) s

/-- SET 0,(HL) (R272). -/
def execSet0AtHl (s : State) : Host.Outcome State Fault Refusal := setOpnd .i0 .atHl s

/-- SET 0,A (R272). -/
def execSet0A (s : State) : Host.Outcome State Fault Refusal := setOpnd .i0 (.reg .a) s

/-- SET 1,B (R272). -/
def execSet1B (s : State) : Host.Outcome State Fault Refusal := setOpnd .i1 (.reg .b) s

/-- SET 1,C (R272). -/
def execSet1C (s : State) : Host.Outcome State Fault Refusal := setOpnd .i1 (.reg .c) s

/-- SET 1,D (R272). -/
def execSet1D (s : State) : Host.Outcome State Fault Refusal := setOpnd .i1 (.reg .d) s

/-- SET 1,E (R272). -/
def execSet1E (s : State) : Host.Outcome State Fault Refusal := setOpnd .i1 (.reg .e) s

/-- SET 1,H (R272). -/
def execSet1H (s : State) : Host.Outcome State Fault Refusal := setOpnd .i1 (.reg .h) s

/-- SET 1,L (R272). -/
def execSet1L (s : State) : Host.Outcome State Fault Refusal := setOpnd .i1 (.reg .l) s

/-- SET 1,(HL) (R272). -/
def execSet1AtHl (s : State) : Host.Outcome State Fault Refusal := setOpnd .i1 .atHl s

/-- SET 1,A (R272). -/
def execSet1A (s : State) : Host.Outcome State Fault Refusal := setOpnd .i1 (.reg .a) s

/-- SET 2,B (R272). -/
def execSet2B (s : State) : Host.Outcome State Fault Refusal := setOpnd .i2 (.reg .b) s

/-- SET 2,C (R272). -/
def execSet2C (s : State) : Host.Outcome State Fault Refusal := setOpnd .i2 (.reg .c) s

/-- SET 2,D (R272). -/
def execSet2D (s : State) : Host.Outcome State Fault Refusal := setOpnd .i2 (.reg .d) s

/-- SET 2,E (R272). -/
def execSet2E (s : State) : Host.Outcome State Fault Refusal := setOpnd .i2 (.reg .e) s

/-- SET 2,H (R272). -/
def execSet2H (s : State) : Host.Outcome State Fault Refusal := setOpnd .i2 (.reg .h) s

/-- SET 2,L (R272). -/
def execSet2L (s : State) : Host.Outcome State Fault Refusal := setOpnd .i2 (.reg .l) s

/-- SET 2,(HL) (R272). -/
def execSet2AtHl (s : State) : Host.Outcome State Fault Refusal := setOpnd .i2 .atHl s

/-- SET 2,A (R272). -/
def execSet2A (s : State) : Host.Outcome State Fault Refusal := setOpnd .i2 (.reg .a) s

/-- SET 3,B (R272). -/
def execSet3B (s : State) : Host.Outcome State Fault Refusal := setOpnd .i3 (.reg .b) s

/-- SET 3,C (R272). -/
def execSet3C (s : State) : Host.Outcome State Fault Refusal := setOpnd .i3 (.reg .c) s

/-- SET 3,D (R272). -/
def execSet3D (s : State) : Host.Outcome State Fault Refusal := setOpnd .i3 (.reg .d) s

/-- SET 3,E (R272). -/
def execSet3E (s : State) : Host.Outcome State Fault Refusal := setOpnd .i3 (.reg .e) s

/-- SET 3,H (R272). -/
def execSet3H (s : State) : Host.Outcome State Fault Refusal := setOpnd .i3 (.reg .h) s

/-- SET 3,L (R272). -/
def execSet3L (s : State) : Host.Outcome State Fault Refusal := setOpnd .i3 (.reg .l) s

/-- SET 3,(HL) (R272). -/
def execSet3AtHl (s : State) : Host.Outcome State Fault Refusal := setOpnd .i3 .atHl s

/-- SET 3,A (R272). -/
def execSet3A (s : State) : Host.Outcome State Fault Refusal := setOpnd .i3 (.reg .a) s

/-- SET 4,B (R272). -/
def execSet4B (s : State) : Host.Outcome State Fault Refusal := setOpnd .i4 (.reg .b) s

/-- SET 4,C (R272). -/
def execSet4C (s : State) : Host.Outcome State Fault Refusal := setOpnd .i4 (.reg .c) s

/-- SET 4,D (R272). -/
def execSet4D (s : State) : Host.Outcome State Fault Refusal := setOpnd .i4 (.reg .d) s

/-- SET 4,E (R272). -/
def execSet4E (s : State) : Host.Outcome State Fault Refusal := setOpnd .i4 (.reg .e) s

/-- SET 4,H (R272). -/
def execSet4H (s : State) : Host.Outcome State Fault Refusal := setOpnd .i4 (.reg .h) s

/-- SET 4,L (R272). -/
def execSet4L (s : State) : Host.Outcome State Fault Refusal := setOpnd .i4 (.reg .l) s

/-- SET 4,(HL) (R272). -/
def execSet4AtHl (s : State) : Host.Outcome State Fault Refusal := setOpnd .i4 .atHl s

/-- SET 4,A (R272). -/
def execSet4A (s : State) : Host.Outcome State Fault Refusal := setOpnd .i4 (.reg .a) s

/-- SET 5,B (R272). -/
def execSet5B (s : State) : Host.Outcome State Fault Refusal := setOpnd .i5 (.reg .b) s

/-- SET 5,C (R272). -/
def execSet5C (s : State) : Host.Outcome State Fault Refusal := setOpnd .i5 (.reg .c) s

/-- SET 5,D (R272). -/
def execSet5D (s : State) : Host.Outcome State Fault Refusal := setOpnd .i5 (.reg .d) s

/-- SET 5,E (R272). -/
def execSet5E (s : State) : Host.Outcome State Fault Refusal := setOpnd .i5 (.reg .e) s

/-- SET 5,H (R272). -/
def execSet5H (s : State) : Host.Outcome State Fault Refusal := setOpnd .i5 (.reg .h) s

/-- SET 5,L (R272). -/
def execSet5L (s : State) : Host.Outcome State Fault Refusal := setOpnd .i5 (.reg .l) s

/-- SET 5,(HL) (R272). -/
def execSet5AtHl (s : State) : Host.Outcome State Fault Refusal := setOpnd .i5 .atHl s

/-- SET 5,A (R272). -/
def execSet5A (s : State) : Host.Outcome State Fault Refusal := setOpnd .i5 (.reg .a) s

/-- SET 6,B (R272). -/
def execSet6B (s : State) : Host.Outcome State Fault Refusal := setOpnd .i6 (.reg .b) s

/-- SET 6,C (R272). -/
def execSet6C (s : State) : Host.Outcome State Fault Refusal := setOpnd .i6 (.reg .c) s

/-- SET 6,D (R272). -/
def execSet6D (s : State) : Host.Outcome State Fault Refusal := setOpnd .i6 (.reg .d) s

/-- SET 6,E (R272). -/
def execSet6E (s : State) : Host.Outcome State Fault Refusal := setOpnd .i6 (.reg .e) s

/-- SET 6,H (R272). -/
def execSet6H (s : State) : Host.Outcome State Fault Refusal := setOpnd .i6 (.reg .h) s

/-- SET 6,L (R272). -/
def execSet6L (s : State) : Host.Outcome State Fault Refusal := setOpnd .i6 (.reg .l) s

/-- SET 6,(HL) (R272). -/
def execSet6AtHl (s : State) : Host.Outcome State Fault Refusal := setOpnd .i6 .atHl s

/-- SET 6,A (R272). -/
def execSet6A (s : State) : Host.Outcome State Fault Refusal := setOpnd .i6 (.reg .a) s

/-- SET 7,B (R272). -/
def execSet7B (s : State) : Host.Outcome State Fault Refusal := setOpnd .i7 (.reg .b) s

/-- SET 7,C (R272). -/
def execSet7C (s : State) : Host.Outcome State Fault Refusal := setOpnd .i7 (.reg .c) s

/-- SET 7,D (R272). -/
def execSet7D (s : State) : Host.Outcome State Fault Refusal := setOpnd .i7 (.reg .d) s

/-- SET 7,E (R272). -/
def execSet7E (s : State) : Host.Outcome State Fault Refusal := setOpnd .i7 (.reg .e) s

/-- SET 7,H (R272). -/
def execSet7H (s : State) : Host.Outcome State Fault Refusal := setOpnd .i7 (.reg .h) s

/-- SET 7,L (R272). -/
def execSet7L (s : State) : Host.Outcome State Fault Refusal := setOpnd .i7 (.reg .l) s

/-- SET 7,(HL) (R272). -/
def execSet7AtHl (s : State) : Host.Outcome State Fault Refusal := setOpnd .i7 .atHl s

/-- SET 7,A (R272). -/
def execSet7A (s : State) : Host.Outcome State Fault Refusal := setOpnd .i7 (.reg .a) s

end Sys2Proof.Machine
end

