-- ==== Sys2Proof/Machine/Rotate.lean ====
section
/-! DEFINITION. The rotates, shifts and SWAP (spec/45_rotate_shift.md). -/

namespace Sys2Proof.Machine

/-- RLCA, RRCA, RLA and RRA (R250 to R253): Z, N and H are cleared. -/
def rotateA (op : RotOp) (s : State) : Host.Outcome State Fault Refusal :=
  runInstr 1 1 (fun t =>
    let r := rotate op t.a t.flagC
    .ok ((t.setReg8 .a r.1).setFlags (some false) (some false) (some false) (some r.2))) s

/-- A CB rotate, shift or swap of an 8-bit operand (R254): Z is set from the result. -/
def rotateOpnd (op : RotOp) (o : Opnd8) (s : State) : Host.Outcome State Fault Refusal :=
  runInstr 2 (opndCost o 2 4) (fun t =>
    match readOpnd t o with
    | .error e => .error e
    | .ok v =>
      let r := rotate op v t.flagC
      (writeOpnd t o r.1).map fun u => u.setFlags (some (r.1 == 0)) (some false) (some false) (some r.2)) s

/-! ## The meanings -/

/-- RLCA (R250). -/
def execRlca (s : State) : Host.Outcome State Fault Refusal := rotateA .rlc s

/-- RRCA (R251). -/
def execRrca (s : State) : Host.Outcome State Fault Refusal := rotateA .rrc s

/-- RLA (R252). -/
def execRla (s : State) : Host.Outcome State Fault Refusal := rotateA .rl s

/-- RRA (R253). -/
def execRra (s : State) : Host.Outcome State Fault Refusal := rotateA .rr s

/-- RLC B (R255). -/
def execRlcB (s : State) : Host.Outcome State Fault Refusal := rotateOpnd .rlc (.reg .b) s

/-- RLC C (R255). -/
def execRlcC (s : State) : Host.Outcome State Fault Refusal := rotateOpnd .rlc (.reg .c) s

/-- RLC D (R255). -/
def execRlcD (s : State) : Host.Outcome State Fault Refusal := rotateOpnd .rlc (.reg .d) s

/-- RLC E (R255). -/
def execRlcE (s : State) : Host.Outcome State Fault Refusal := rotateOpnd .rlc (.reg .e) s

/-- RLC H (R255). -/
def execRlcH (s : State) : Host.Outcome State Fault Refusal := rotateOpnd .rlc (.reg .h) s

/-- RLC L (R255). -/
def execRlcL (s : State) : Host.Outcome State Fault Refusal := rotateOpnd .rlc (.reg .l) s

/-- RLC (HL) (R255). -/
def execRlcAtHl (s : State) : Host.Outcome State Fault Refusal := rotateOpnd .rlc .atHl s

/-- RLC A (R255). -/
def execRlcA (s : State) : Host.Outcome State Fault Refusal := rotateOpnd .rlc (.reg .a) s

/-- RRC B (R256). -/
def execRrcB (s : State) : Host.Outcome State Fault Refusal := rotateOpnd .rrc (.reg .b) s

/-- RRC C (R256). -/
def execRrcC (s : State) : Host.Outcome State Fault Refusal := rotateOpnd .rrc (.reg .c) s

/-- RRC D (R256). -/
def execRrcD (s : State) : Host.Outcome State Fault Refusal := rotateOpnd .rrc (.reg .d) s

/-- RRC E (R256). -/
def execRrcE (s : State) : Host.Outcome State Fault Refusal := rotateOpnd .rrc (.reg .e) s

/-- RRC H (R256). -/
def execRrcH (s : State) : Host.Outcome State Fault Refusal := rotateOpnd .rrc (.reg .h) s

/-- RRC L (R256). -/
def execRrcL (s : State) : Host.Outcome State Fault Refusal := rotateOpnd .rrc (.reg .l) s

/-- RRC (HL) (R256). -/
def execRrcAtHl (s : State) : Host.Outcome State Fault Refusal := rotateOpnd .rrc .atHl s

/-- RRC A (R256). -/
def execRrcA (s : State) : Host.Outcome State Fault Refusal := rotateOpnd .rrc (.reg .a) s

/-- RL B (R257). -/
def execRlB (s : State) : Host.Outcome State Fault Refusal := rotateOpnd .rl (.reg .b) s

/-- RL C (R257). -/
def execRlC (s : State) : Host.Outcome State Fault Refusal := rotateOpnd .rl (.reg .c) s

/-- RL D (R257). -/
def execRlD (s : State) : Host.Outcome State Fault Refusal := rotateOpnd .rl (.reg .d) s

/-- RL E (R257). -/
def execRlE (s : State) : Host.Outcome State Fault Refusal := rotateOpnd .rl (.reg .e) s

/-- RL H (R257). -/
def execRlH (s : State) : Host.Outcome State Fault Refusal := rotateOpnd .rl (.reg .h) s

/-- RL L (R257). -/
def execRlL (s : State) : Host.Outcome State Fault Refusal := rotateOpnd .rl (.reg .l) s

/-- RL (HL) (R257). -/
def execRlAtHl (s : State) : Host.Outcome State Fault Refusal := rotateOpnd .rl .atHl s

/-- RL A (R257). -/
def execRlA (s : State) : Host.Outcome State Fault Refusal := rotateOpnd .rl (.reg .a) s

/-- RR B (R258). -/
def execRrB (s : State) : Host.Outcome State Fault Refusal := rotateOpnd .rr (.reg .b) s

/-- RR C (R258). -/
def execRrC (s : State) : Host.Outcome State Fault Refusal := rotateOpnd .rr (.reg .c) s

/-- RR D (R258). -/
def execRrD (s : State) : Host.Outcome State Fault Refusal := rotateOpnd .rr (.reg .d) s

/-- RR E (R258). -/
def execRrE (s : State) : Host.Outcome State Fault Refusal := rotateOpnd .rr (.reg .e) s

/-- RR H (R258). -/
def execRrH (s : State) : Host.Outcome State Fault Refusal := rotateOpnd .rr (.reg .h) s

/-- RR L (R258). -/
def execRrL (s : State) : Host.Outcome State Fault Refusal := rotateOpnd .rr (.reg .l) s

/-- RR (HL) (R258). -/
def execRrAtHl (s : State) : Host.Outcome State Fault Refusal := rotateOpnd .rr .atHl s

/-- RR A (R258). -/
def execRrA (s : State) : Host.Outcome State Fault Refusal := rotateOpnd .rr (.reg .a) s

/-- SLA B (R259). -/
def execSlaB (s : State) : Host.Outcome State Fault Refusal := rotateOpnd .sla (.reg .b) s

/-- SLA C (R259). -/
def execSlaC (s : State) : Host.Outcome State Fault Refusal := rotateOpnd .sla (.reg .c) s

/-- SLA D (R259). -/
def execSlaD (s : State) : Host.Outcome State Fault Refusal := rotateOpnd .sla (.reg .d) s

/-- SLA E (R259). -/
def execSlaE (s : State) : Host.Outcome State Fault Refusal := rotateOpnd .sla (.reg .e) s

/-- SLA H (R259). -/
def execSlaH (s : State) : Host.Outcome State Fault Refusal := rotateOpnd .sla (.reg .h) s

/-- SLA L (R259). -/
def execSlaL (s : State) : Host.Outcome State Fault Refusal := rotateOpnd .sla (.reg .l) s

/-- SLA (HL) (R259). -/
def execSlaAtHl (s : State) : Host.Outcome State Fault Refusal := rotateOpnd .sla .atHl s

/-- SLA A (R259). -/
def execSlaA (s : State) : Host.Outcome State Fault Refusal := rotateOpnd .sla (.reg .a) s

/-- SRA B (R260). -/
def execSraB (s : State) : Host.Outcome State Fault Refusal := rotateOpnd .sra (.reg .b) s

/-- SRA C (R260). -/
def execSraC (s : State) : Host.Outcome State Fault Refusal := rotateOpnd .sra (.reg .c) s

/-- SRA D (R260). -/
def execSraD (s : State) : Host.Outcome State Fault Refusal := rotateOpnd .sra (.reg .d) s

/-- SRA E (R260). -/
def execSraE (s : State) : Host.Outcome State Fault Refusal := rotateOpnd .sra (.reg .e) s

/-- SRA H (R260). -/
def execSraH (s : State) : Host.Outcome State Fault Refusal := rotateOpnd .sra (.reg .h) s

/-- SRA L (R260). -/
def execSraL (s : State) : Host.Outcome State Fault Refusal := rotateOpnd .sra (.reg .l) s

/-- SRA (HL) (R260). -/
def execSraAtHl (s : State) : Host.Outcome State Fault Refusal := rotateOpnd .sra .atHl s

/-- SRA A (R260). -/
def execSraA (s : State) : Host.Outcome State Fault Refusal := rotateOpnd .sra (.reg .a) s

/-- SWAP B (R261). -/
def execSwapB (s : State) : Host.Outcome State Fault Refusal := rotateOpnd .swap (.reg .b) s

/-- SWAP C (R261). -/
def execSwapC (s : State) : Host.Outcome State Fault Refusal := rotateOpnd .swap (.reg .c) s

/-- SWAP D (R261). -/
def execSwapD (s : State) : Host.Outcome State Fault Refusal := rotateOpnd .swap (.reg .d) s

/-- SWAP E (R261). -/
def execSwapE (s : State) : Host.Outcome State Fault Refusal := rotateOpnd .swap (.reg .e) s

/-- SWAP H (R261). -/
def execSwapH (s : State) : Host.Outcome State Fault Refusal := rotateOpnd .swap (.reg .h) s

/-- SWAP L (R261). -/
def execSwapL (s : State) : Host.Outcome State Fault Refusal := rotateOpnd .swap (.reg .l) s

/-- SWAP (HL) (R261). -/
def execSwapAtHl (s : State) : Host.Outcome State Fault Refusal := rotateOpnd .swap .atHl s

/-- SWAP A (R261). -/
def execSwapA (s : State) : Host.Outcome State Fault Refusal := rotateOpnd .swap (.reg .a) s

/-- SRL B (R262). -/
def execSrlB (s : State) : Host.Outcome State Fault Refusal := rotateOpnd .srl (.reg .b) s

/-- SRL C (R262). -/
def execSrlC (s : State) : Host.Outcome State Fault Refusal := rotateOpnd .srl (.reg .c) s

/-- SRL D (R262). -/
def execSrlD (s : State) : Host.Outcome State Fault Refusal := rotateOpnd .srl (.reg .d) s

/-- SRL E (R262). -/
def execSrlE (s : State) : Host.Outcome State Fault Refusal := rotateOpnd .srl (.reg .e) s

/-- SRL H (R262). -/
def execSrlH (s : State) : Host.Outcome State Fault Refusal := rotateOpnd .srl (.reg .h) s

/-- SRL L (R262). -/
def execSrlL (s : State) : Host.Outcome State Fault Refusal := rotateOpnd .srl (.reg .l) s

/-- SRL (HL) (R262). -/
def execSrlAtHl (s : State) : Host.Outcome State Fault Refusal := rotateOpnd .srl .atHl s

/-- SRL A (R262). -/
def execSrlA (s : State) : Host.Outcome State Fault Refusal := rotateOpnd .srl (.reg .a) s

end Sys2Proof.Machine
end

