-- ==== Sys2Proof/Machine/Control.lean ====
section
/-! DEFINITION. The control instructions, the escape and the tag Invalid (spec/48_control.md). -/

namespace Sys2Proof.Machine

/-- NOP (R300). -/
def noOperation (s : State) : Host.Outcome State Fault Refusal := runInstr 1 1 .ok s

/-- STOP (R301): one byte, run state STOPPED. -/
def stopRun (s : State) : Host.Outcome State Fault Refusal := runInstr 1 1 (fun t => .ok (t.setRun .stopped)) s

/-- HALT (R302): run state HALTED. -/
def haltRun (s : State) : Host.Outcome State Fault Refusal := runInstr 1 1 (fun t => .ok (t.setRun .halted)) s

/-- DI (R303). -/
def disableInterrupts (s : State) : Host.Outcome State Fault Refusal :=
  runInstr 1 1 (fun t => .ok ((t.setIme false).setEiPending false)) s

/-- EI (R304). -/
def enableInterrupts (s : State) : Host.Outcome State Fault Refusal :=
  runInstr 1 1 (fun t => .ok (t.setEiPending true)) s

/-- How many bytes an Invalid code was fetched as: two after the escape, else one (R306). -/
def invalidLength (code : Word) : Word := if hiByte code = 0xCB then 2 else 1

/-- Invalid (R306): under INVALID_POLICY = FAULT, DecodeGap(code) is raised; under NOP the step completes at
INVALID_CYCLES, nothing changing but PC. -/
def runInvalid (code : Word) (s : State) : Host.Outcome State Fault Refusal :=
  runInstr (invalidLength code) s.params.invalidCycles (fun t =>
    match s.params.invalidPolicy with
    | .fault => .error ⟨.decodeGap, code⟩
    | .nop => .ok t) s

/-- The CB-table operation of a second byte (R106), run on its own fields. -/
def runCb (o : Byte) (s : State) : Host.Outcome State Fault Refusal :=
  match s.params.decodeSet with
  | .documented => runInvalid (cbCode o) s
  | .full =>
    match fieldX o with
    | 0 => rotateOpnd (rotOpOf (fieldY o)) (opnd8Of (fieldZ o)) s
    | 1 => bitOpnd (idx8Of (fieldY o)) (opnd8Of (fieldZ o)) s
    | 2 => resOpnd (idx8Of (fieldY o)) (opnd8Of (fieldZ o)) s
    | _ => setOpnd (idx8Of (fieldY o)) (opnd8Of (fieldZ o)) s

/-- The escape (R305), from the state at its byte: the next byte is fetched and its CB-table operation is run, which
charges its own cost for both bytes; the fetch can fault. -/
def escapeCb (s : State) : Host.Outcome State Fault Refusal :=
  match readByte s (s.pc + 1) with
  | .error e => .next (s.takeFault e)
  | .ok o => runCb o s

/-! ## The meanings -/

/-- NOP (R300). -/
def execNop (s : State) : Host.Outcome State Fault Refusal := noOperation s

/-- STOP (R301). -/
def execStop (s : State) : Host.Outcome State Fault Refusal := stopRun s

/-- HALT (R302). -/
def execHalt (s : State) : Host.Outcome State Fault Refusal := haltRun s

/-- PREFIX CB (R305). -/
def execPrefixCb (s : State) : Host.Outcome State Fault Refusal := escapeCb s

/-- INVALID (R306). -/
def execInvalid (code : Word) (s : State) : Host.Outcome State Fault Refusal := runInvalid code s

/-- DI (R303). -/
def execDi (s : State) : Host.Outcome State Fault Refusal := disableInterrupts s

/-- EI (R304). -/
def execEi (s : State) : Host.Outcome State Fault Refusal := enableInterrupts s

end Sys2Proof.Machine
end

