-- ==== Sys2Proof/Machine/Jumps.lean ====
section
/-! DEFINITION. The jumps, calls, returns and restarts (spec/47_jumps.md). In a body PC is pc1, the address after the
instruction. No target is checked. -/

namespace Sys2Proof.Machine

/-- JR e8 (R281). -/
def jumpRel (e : Byte) (s : State) : Host.Outcome State Fault Refusal :=
  runInstr 2 3 (fun t => .ok (t.setPc (t.pc + sext16 e))) s

/-- JR cc,e8 (R282). -/
def jumpRelIf (cc : Cond) (e : Byte) (s : State) : Host.Outcome State Fault Refusal :=
  runInstr 2 (condCost s.params (s.cond cc) 3 2)
    (fun t => .ok (if s.cond cc then t.setPc (t.pc + sext16 e) else t)) s

/-- JP a16 (R283). -/
def jumpAbs (nn : Word) (s : State) : Host.Outcome State Fault Refusal :=
  runInstr 3 4 (fun t => .ok (t.setPc nn)) s

/-- JP cc,a16 (R284). -/
def jumpAbsIf (cc : Cond) (nn : Word) (s : State) : Host.Outcome State Fault Refusal :=
  runInstr 3 (condCost s.params (s.cond cc) 4 3) (fun t => .ok (if s.cond cc then t.setPc nn else t)) s

/-- JP HL (R285). -/
def jumpHl (s : State) : Host.Outcome State Fault Refusal :=
  runInstr 1 1 (fun t => .ok (t.setPc t.hl)) s

/-- Pushing pc1 and going to a target (R286). -/
def callTo (target : Word) (t : State) : Access State := (push t t.pc).map fun u => u.setPc target

/-- CALL a16 (R286). -/
def callAbs (nn : Word) (s : State) : Host.Outcome State Fault Refusal :=
  runInstr 3 6 (callTo nn) s

/-- CALL cc,a16 (R287): nothing is stored when the condition fails. -/
def callAbsIf (cc : Cond) (nn : Word) (s : State) : Host.Outcome State Fault Refusal :=
  runInstr 3 (condCost s.params (s.cond cc) 6 3) (fun t => if s.cond cc then callTo nn t else .ok t) s

/-- Popping PC (R288). -/
def popPc (t : State) : Access State := (pop t).map fun x => x.2.setPc x.1

/-- RET (R288). -/
def returnPop (s : State) : Host.Outcome State Fault Refusal :=
  runInstr 1 4 popPc s

/-- RET cc (R289): nothing is read when the condition fails. -/
def returnIf (cc : Cond) (s : State) : Host.Outcome State Fault Refusal :=
  runInstr 1 (condCost s.params (s.cond cc) 5 2) (fun t => if s.cond cc then popPc t else .ok t) s

/-- RETI (R290): IME is set at once. -/
def returnEnable (s : State) : Host.Outcome State Fault Refusal :=
  runInstr 1 4 (fun t => (popPc t).map fun u => u.setIme true) s

/-- RST n (R291). -/
def restart (y : Idx8) (s : State) : Host.Outcome State Fault Refusal :=
  runInstr 1 4 (callTo (restartTarget y)) s

/-! ## The meanings -/

/-- JR e8 (R281). -/
def execJrE8 (e : Byte) (s : State) : Host.Outcome State Fault Refusal := jumpRel e s

/-- JR NZ,e8 (R282). -/
def execJrNzE8 (e : Byte) (s : State) : Host.Outcome State Fault Refusal := jumpRelIf .nz e s

/-- JR Z,e8 (R282). -/
def execJrZE8 (e : Byte) (s : State) : Host.Outcome State Fault Refusal := jumpRelIf .z e s

/-- JR NC,e8 (R282). -/
def execJrNcE8 (e : Byte) (s : State) : Host.Outcome State Fault Refusal := jumpRelIf .nc e s

/-- JR C,e8 (R282). -/
def execJrCE8 (e : Byte) (s : State) : Host.Outcome State Fault Refusal := jumpRelIf .c e s

/-- RET NZ (R289). -/
def execRetNz (s : State) : Host.Outcome State Fault Refusal := returnIf .nz s

/-- JP NZ,a16 (R284). -/
def execJpNzA16 (nn : Word) (s : State) : Host.Outcome State Fault Refusal := jumpAbsIf .nz nn s

/-- JP a16 (R283). -/
def execJpA16 (nn : Word) (s : State) : Host.Outcome State Fault Refusal := jumpAbs nn s

/-- CALL NZ,a16 (R287). -/
def execCallNzA16 (nn : Word) (s : State) : Host.Outcome State Fault Refusal := callAbsIf .nz nn s

/-- RST 0x00 (R291). -/
def execRst00 (s : State) : Host.Outcome State Fault Refusal := restart .i0 s

/-- RET Z (R289). -/
def execRetZ (s : State) : Host.Outcome State Fault Refusal := returnIf .z s

/-- RET (R288). -/
def execRet (s : State) : Host.Outcome State Fault Refusal := returnPop s

/-- JP Z,a16 (R284). -/
def execJpZA16 (nn : Word) (s : State) : Host.Outcome State Fault Refusal := jumpAbsIf .z nn s

/-- CALL Z,a16 (R287). -/
def execCallZA16 (nn : Word) (s : State) : Host.Outcome State Fault Refusal := callAbsIf .z nn s

/-- CALL a16 (R286). -/
def execCallA16 (nn : Word) (s : State) : Host.Outcome State Fault Refusal := callAbs nn s

/-- RST 0x08 (R291). -/
def execRst08 (s : State) : Host.Outcome State Fault Refusal := restart .i1 s

/-- RET NC (R289). -/
def execRetNc (s : State) : Host.Outcome State Fault Refusal := returnIf .nc s

/-- JP NC,a16 (R284). -/
def execJpNcA16 (nn : Word) (s : State) : Host.Outcome State Fault Refusal := jumpAbsIf .nc nn s

/-- CALL NC,a16 (R287). -/
def execCallNcA16 (nn : Word) (s : State) : Host.Outcome State Fault Refusal := callAbsIf .nc nn s

/-- RST 0x10 (R291). -/
def execRst10 (s : State) : Host.Outcome State Fault Refusal := restart .i2 s

/-- RET C (R289). -/
def execRetC (s : State) : Host.Outcome State Fault Refusal := returnIf .c s

/-- RETI (R290). -/
def execReti (s : State) : Host.Outcome State Fault Refusal := returnEnable s

/-- JP C,a16 (R284). -/
def execJpCA16 (nn : Word) (s : State) : Host.Outcome State Fault Refusal := jumpAbsIf .c nn s

/-- CALL C,a16 (R287). -/
def execCallCA16 (nn : Word) (s : State) : Host.Outcome State Fault Refusal := callAbsIf .c nn s

/-- RST 0x18 (R291). -/
def execRst18 (s : State) : Host.Outcome State Fault Refusal := restart .i3 s

/-- RST 0x20 (R291). -/
def execRst20 (s : State) : Host.Outcome State Fault Refusal := restart .i4 s

/-- JP HL (R285). -/
def execJpHl (s : State) : Host.Outcome State Fault Refusal := jumpHl s

/-- RST 0x28 (R291). -/
def execRst28 (s : State) : Host.Outcome State Fault Refusal := restart .i5 s

/-- RST 0x30 (R291). -/
def execRst30 (s : State) : Host.Outcome State Fault Refusal := restart .i6 s

/-- RST 0x38 (R291). -/
def execRst38 (s : State) : Host.Outcome State Fault Refusal := restart .i7 s

end Sys2Proof.Machine
end

