-- ==== Sys2Proof/Machine/Loads16.lean ====
section
/-! DEFINITION. The 16-bit loads and the stack (spec/42_loads16.md). -/

namespace Sys2Proof.Machine

/-- LD rr,d16 (R190). -/
def loadImm16 (r : Reg16) (nn : Word) (s : State) : Host.Outcome State Fault Refusal :=
  runInstr 3 3 (fun t => .ok (t.setReg16 r nn)) s

/-- LD (a16),SP (R191): the low byte first. -/
def storeSp (nn : Word) (s : State) : Host.Outcome State Fault Refusal :=
  runInstr 3 5 (fun t => writeWord t nn t.sp) s

/-- LD SP,HL (R192). -/
def loadSpHl (s : State) : Host.Outcome State Fault Refusal :=
  runInstr 1 2 (fun t => .ok (t.setSp t.hl)) s

/-- LD HL,SP+e8 (R193). -/
def loadHlSp (e : Byte) (s : State) : Host.Outcome State Fault Refusal :=
  runInstr 2 3 (fun t => .ok ((t.setReg16 .hl (t.sp + sext16 e)).setFlags (some false) (some false)
    (some (spHalfCarry t.sp e)) (some (spCarry t.sp e)))) s

/-- PUSH rr (R194). -/
def pushPair (r : StackReg) (s : State) : Host.Outcome State Fault Refusal :=
  runInstr 1 4 (fun t => push t (t.stackReg r)) s

/-- POP rr (R195) and POP AF (R196). -/
def popPair (r : StackReg) (s : State) : Host.Outcome State Fault Refusal :=
  runInstr 1 3 (fun t => (pop t).map fun x => x.2.setStackReg r x.1) s

/-! ## The meanings -/

/-- LD BC,d16 (R190). -/
def execLdBcD16 (nn : Word) (s : State) : Host.Outcome State Fault Refusal := loadImm16 .bc nn s

/-- LD (a16),SP (R191). -/
def execLdAtA16Sp (nn : Word) (s : State) : Host.Outcome State Fault Refusal := storeSp nn s

/-- LD DE,d16 (R190). -/
def execLdDeD16 (nn : Word) (s : State) : Host.Outcome State Fault Refusal := loadImm16 .de nn s

/-- LD HL,d16 (R190). -/
def execLdHlD16 (nn : Word) (s : State) : Host.Outcome State Fault Refusal := loadImm16 .hl nn s

/-- LD SP,d16 (R190). -/
def execLdSpD16 (nn : Word) (s : State) : Host.Outcome State Fault Refusal := loadImm16 .sp nn s

/-- POP BC (R195). -/
def execPopBc (s : State) : Host.Outcome State Fault Refusal := popPair .bc s

/-- PUSH BC (R194). -/
def execPushBc (s : State) : Host.Outcome State Fault Refusal := pushPair .bc s

/-- POP DE (R195). -/
def execPopDe (s : State) : Host.Outcome State Fault Refusal := popPair .de s

/-- PUSH DE (R194). -/
def execPushDe (s : State) : Host.Outcome State Fault Refusal := pushPair .de s

/-- POP HL (R195). -/
def execPopHl (s : State) : Host.Outcome State Fault Refusal := popPair .hl s

/-- PUSH HL (R194). -/
def execPushHl (s : State) : Host.Outcome State Fault Refusal := pushPair .hl s

/-- POP AF (R196). -/
def execPopAf (s : State) : Host.Outcome State Fault Refusal := popPair .af s

/-- PUSH AF (R194). -/
def execPushAf (s : State) : Host.Outcome State Fault Refusal := pushPair .af s

/-- LD HL,SP+e8 (R193). -/
def execLdHlSpE8 (e : Byte) (s : State) : Host.Outcome State Fault Refusal := loadHlSp e s

/-- LD SP,HL (R192). -/
def execLdSpHl (s : State) : Host.Outcome State Fault Refusal := loadSpHl s

end Sys2Proof.Machine
end

