-- ==== Sys2Proof/Machine/Loads8.lean ====
section
/-! DEFINITION. The 8-bit loads and stores (spec/41_loads8.md). None writes a flag. -/

namespace Sys2Proof.Machine

/-- LD r,d8 (R160). -/
def loadImm8 (r : Reg8) (n : Byte) (s : State) : Host.Outcome State Fault Refusal :=
  runInstr 2 2 (fun t => .ok (t.setReg8 r n)) s

/-- LD (HL),d8 (R161). -/
def storeImm8 (n : Byte) (s : State) : Host.Outcome State Fault Refusal :=
  runInstr 2 3 (fun t => writeByte t t.hl n) s

/-- LD (rr),A (R162). -/
def storeA (rr : Reg16) (s : State) : Host.Outcome State Fault Refusal :=
  runInstr 1 2 (fun t => writeByte t (t.reg16 rr) t.a) s

/-- LD A,(rr) (R163). -/
def loadA (rr : Reg16) (s : State) : Host.Outcome State Fault Refusal :=
  runInstr 1 2 (fun t => (readByte t (t.reg16 rr)).map (t.setReg8 .a)) s

/-- LD (HL+),A and LD (HL-),A (R164, R165): the store, then HL moves by step. -/
def storeAStep (step : Word) (s : State) : Host.Outcome State Fault Refusal :=
  runInstr 1 2 (fun t => (writeByte t t.hl t.a).map fun u => u.setReg16 .hl (t.hl + step)) s

/-- LD A,(HL+) and LD A,(HL-) (R166, R167): the load, then HL moves by step. -/
def loadAStep (step : Word) (s : State) : Host.Outcome State Fault Refusal :=
  runInstr 1 2 (fun t => (readByte t t.hl).map fun v => (t.setReg8 .a v).setReg16 .hl (t.hl + step)) s

/-- LD r,r' (R168). -/
def moveReg8 (dst src : Reg8) (s : State) : Host.Outcome State Fault Refusal :=
  runInstr 1 1 (fun t => .ok (t.setReg8 dst (t.reg8 src))) s

/-- LD r,(HL) (R169). -/
def loadFromHl (dst : Reg8) (s : State) : Host.Outcome State Fault Refusal :=
  runInstr 1 2 (fun t => (readByte t t.hl).map (t.setReg8 dst)) s

/-- LD (HL),r (R170). -/
def storeReg8 (r : Reg8) (s : State) : Host.Outcome State Fault Refusal :=
  runInstr 1 2 (fun t => writeByte t t.hl (t.reg8 r)) s

/-- LDH (a8),A (R171). -/
def storeAHigh (n : Byte) (s : State) : Host.Outcome State Fault Refusal :=
  runInstr 2 3 (fun t => writeByte t (highPage n) t.a) s

/-- LDH A,(a8) (R172). -/
def loadAHigh (n : Byte) (s : State) : Host.Outcome State Fault Refusal :=
  runInstr 2 3 (fun t => (readByte t (highPage n)).map (t.setReg8 .a)) s

/-- LD (C),A (R173). -/
def storeAAtC (s : State) : Host.Outcome State Fault Refusal :=
  runInstr 1 2 (fun t => writeByte t (highPage t.c) t.a) s

/-- LD A,(C) (R174). -/
def loadAAtC (s : State) : Host.Outcome State Fault Refusal :=
  runInstr 1 2 (fun t => (readByte t (highPage t.c)).map (t.setReg8 .a)) s

/-- LD (a16),A (R175). -/
def storeAAbs (nn : Word) (s : State) : Host.Outcome State Fault Refusal :=
  runInstr 3 4 (fun t => writeByte t nn t.a) s

/-- LD A,(a16) (R176). -/
def loadAAbs (nn : Word) (s : State) : Host.Outcome State Fault Refusal :=
  runInstr 3 4 (fun t => (readByte t nn).map (t.setReg8 .a)) s

/-! ## The meanings -/

/-- LD (BC),A (R162). -/
def execLdAtBcA (s : State) : Host.Outcome State Fault Refusal := storeA .bc s

/-- LD B,d8 (R160). -/
def execLdBD8 (n : Byte) (s : State) : Host.Outcome State Fault Refusal := loadImm8 .b n s

/-- LD A,(BC) (R163). -/
def execLdAAtBc (s : State) : Host.Outcome State Fault Refusal := loadA .bc s

/-- LD C,d8 (R160). -/
def execLdCD8 (n : Byte) (s : State) : Host.Outcome State Fault Refusal := loadImm8 .c n s

/-- LD (DE),A (R162). -/
def execLdAtDeA (s : State) : Host.Outcome State Fault Refusal := storeA .de s

/-- LD D,d8 (R160). -/
def execLdDD8 (n : Byte) (s : State) : Host.Outcome State Fault Refusal := loadImm8 .d n s

/-- LD A,(DE) (R163). -/
def execLdAAtDe (s : State) : Host.Outcome State Fault Refusal := loadA .de s

/-- LD E,d8 (R160). -/
def execLdED8 (n : Byte) (s : State) : Host.Outcome State Fault Refusal := loadImm8 .e n s

/-- LD (HL+),A (R164). -/
def execLdAtHlIncA (s : State) : Host.Outcome State Fault Refusal := storeAStep 1 s

/-- LD H,d8 (R160). -/
def execLdHD8 (n : Byte) (s : State) : Host.Outcome State Fault Refusal := loadImm8 .h n s

/-- LD A,(HL+) (R166). -/
def execLdAAtHlInc (s : State) : Host.Outcome State Fault Refusal := loadAStep 1 s

/-- LD L,d8 (R160). -/
def execLdLD8 (n : Byte) (s : State) : Host.Outcome State Fault Refusal := loadImm8 .l n s

/-- LD (HL-),A (R165). -/
def execLdAtHlDecA (s : State) : Host.Outcome State Fault Refusal := storeAStep (-1) s

/-- LD (HL),d8 (R161). -/
def execLdAtHlD8 (n : Byte) (s : State) : Host.Outcome State Fault Refusal := storeImm8 n s

/-- LD A,(HL-) (R167). -/
def execLdAAtHlDec (s : State) : Host.Outcome State Fault Refusal := loadAStep (-1) s

/-- LD A,d8 (R160). -/
def execLdAD8 (n : Byte) (s : State) : Host.Outcome State Fault Refusal := loadImm8 .a n s

/-- LD B,B (R168). -/
def execLdBB (s : State) : Host.Outcome State Fault Refusal := moveReg8 .b .b s

/-- LD B,C (R168). -/
def execLdBC (s : State) : Host.Outcome State Fault Refusal := moveReg8 .b .c s

/-- LD B,D (R168). -/
def execLdBD (s : State) : Host.Outcome State Fault Refusal := moveReg8 .b .d s

/-- LD B,E (R168). -/
def execLdBE (s : State) : Host.Outcome State Fault Refusal := moveReg8 .b .e s

/-- LD B,H (R168). -/
def execLdBH (s : State) : Host.Outcome State Fault Refusal := moveReg8 .b .h s

/-- LD B,L (R168). -/
def execLdBL (s : State) : Host.Outcome State Fault Refusal := moveReg8 .b .l s

/-- LD B,(HL) (R169). -/
def execLdBAtHl (s : State) : Host.Outcome State Fault Refusal := loadFromHl .b s

/-- LD B,A (R168). -/
def execLdBA (s : State) : Host.Outcome State Fault Refusal := moveReg8 .b .a s

/-- LD C,B (R168). -/
def execLdCB (s : State) : Host.Outcome State Fault Refusal := moveReg8 .c .b s

/-- LD C,C (R168). -/
def execLdCC (s : State) : Host.Outcome State Fault Refusal := moveReg8 .c .c s

/-- LD C,D (R168). -/
def execLdCD (s : State) : Host.Outcome State Fault Refusal := moveReg8 .c .d s

/-- LD C,E (R168). -/
def execLdCE (s : State) : Host.Outcome State Fault Refusal := moveReg8 .c .e s

/-- LD C,H (R168). -/
def execLdCH (s : State) : Host.Outcome State Fault Refusal := moveReg8 .c .h s

/-- LD C,L (R168). -/
def execLdCL (s : State) : Host.Outcome State Fault Refusal := moveReg8 .c .l s

/-- LD C,(HL) (R169). -/
def execLdCAtHl (s : State) : Host.Outcome State Fault Refusal := loadFromHl .c s

/-- LD C,A (R168). -/
def execLdCA (s : State) : Host.Outcome State Fault Refusal := moveReg8 .c .a s

/-- LD D,B (R168). -/
def execLdDB (s : State) : Host.Outcome State Fault Refusal := moveReg8 .d .b s

/-- LD D,C (R168). -/
def execLdDC (s : State) : Host.Outcome State Fault Refusal := moveReg8 .d .c s

/-- LD D,D (R168). -/
def execLdDD (s : State) : Host.Outcome State Fault Refusal := moveReg8 .d .d s

/-- LD D,E (R168). -/
def execLdDE (s : State) : Host.Outcome State Fault Refusal := moveReg8 .d .e s

/-- LD D,H (R168). -/
def execLdDH (s : State) : Host.Outcome State Fault Refusal := moveReg8 .d .h s

/-- LD D,L (R168). -/
def execLdDL (s : State) : Host.Outcome State Fault Refusal := moveReg8 .d .l s

/-- LD D,(HL) (R169). -/
def execLdDAtHl (s : State) : Host.Outcome State Fault Refusal := loadFromHl .d s

/-- LD D,A (R168). -/
def execLdDA (s : State) : Host.Outcome State Fault Refusal := moveReg8 .d .a s

/-- LD E,B (R168). -/
def execLdEB (s : State) : Host.Outcome State Fault Refusal := moveReg8 .e .b s

/-- LD E,C (R168). -/
def execLdEC (s : State) : Host.Outcome State Fault Refusal := moveReg8 .e .c s

/-- LD E,D (R168). -/
def execLdED (s : State) : Host.Outcome State Fault Refusal := moveReg8 .e .d s

/-- LD E,E (R168). -/
def execLdEE (s : State) : Host.Outcome State Fault Refusal := moveReg8 .e .e s

/-- LD E,H (R168). -/
def execLdEH (s : State) : Host.Outcome State Fault Refusal := moveReg8 .e .h s

/-- LD E,L (R168). -/
def execLdEL (s : State) : Host.Outcome State Fault Refusal := moveReg8 .e .l s

/-- LD E,(HL) (R169). -/
def execLdEAtHl (s : State) : Host.Outcome State Fault Refusal := loadFromHl .e s

/-- LD E,A (R168). -/
def execLdEA (s : State) : Host.Outcome State Fault Refusal := moveReg8 .e .a s

/-- LD H,B (R168). -/
def execLdHB (s : State) : Host.Outcome State Fault Refusal := moveReg8 .h .b s

/-- LD H,C (R168). -/
def execLdHC (s : State) : Host.Outcome State Fault Refusal := moveReg8 .h .c s

/-- LD H,D (R168). -/
def execLdHD (s : State) : Host.Outcome State Fault Refusal := moveReg8 .h .d s

/-- LD H,E (R168). -/
def execLdHE (s : State) : Host.Outcome State Fault Refusal := moveReg8 .h .e s

/-- LD H,H (R168). -/
def execLdHH (s : State) : Host.Outcome State Fault Refusal := moveReg8 .h .h s

/-- LD H,L (R168). -/
def execLdHL (s : State) : Host.Outcome State Fault Refusal := moveReg8 .h .l s

/-- LD H,(HL) (R169). -/
def execLdHAtHl (s : State) : Host.Outcome State Fault Refusal := loadFromHl .h s

/-- LD H,A (R168). -/
def execLdHA (s : State) : Host.Outcome State Fault Refusal := moveReg8 .h .a s

/-- LD L,B (R168). -/
def execLdLB (s : State) : Host.Outcome State Fault Refusal := moveReg8 .l .b s

/-- LD L,C (R168). -/
def execLdLC (s : State) : Host.Outcome State Fault Refusal := moveReg8 .l .c s

/-- LD L,D (R168). -/
def execLdLD (s : State) : Host.Outcome State Fault Refusal := moveReg8 .l .d s

/-- LD L,E (R168). -/
def execLdLE (s : State) : Host.Outcome State Fault Refusal := moveReg8 .l .e s

/-- LD L,H (R168). -/
def execLdLH (s : State) : Host.Outcome State Fault Refusal := moveReg8 .l .h s

/-- LD L,L (R168). -/
def execLdLL (s : State) : Host.Outcome State Fault Refusal := moveReg8 .l .l s

/-- LD L,(HL) (R169). -/
def execLdLAtHl (s : State) : Host.Outcome State Fault Refusal := loadFromHl .l s

/-- LD L,A (R168). -/
def execLdLA (s : State) : Host.Outcome State Fault Refusal := moveReg8 .l .a s

/-- LD (HL),B (R170). -/
def execLdAtHlB (s : State) : Host.Outcome State Fault Refusal := storeReg8 .b s

/-- LD (HL),C (R170). -/
def execLdAtHlC (s : State) : Host.Outcome State Fault Refusal := storeReg8 .c s

/-- LD (HL),D (R170). -/
def execLdAtHlD (s : State) : Host.Outcome State Fault Refusal := storeReg8 .d s

/-- LD (HL),E (R170). -/
def execLdAtHlE (s : State) : Host.Outcome State Fault Refusal := storeReg8 .e s

/-- LD (HL),H (R170). -/
def execLdAtHlH (s : State) : Host.Outcome State Fault Refusal := storeReg8 .h s

/-- LD (HL),L (R170). -/
def execLdAtHlL (s : State) : Host.Outcome State Fault Refusal := storeReg8 .l s

/-- LD (HL),A (R170). -/
def execLdAtHlA (s : State) : Host.Outcome State Fault Refusal := storeReg8 .a s

/-- LD A,B (R168). -/
def execLdAB (s : State) : Host.Outcome State Fault Refusal := moveReg8 .a .b s

/-- LD A,C (R168). -/
def execLdAC (s : State) : Host.Outcome State Fault Refusal := moveReg8 .a .c s

/-- LD A,D (R168). -/
def execLdAD (s : State) : Host.Outcome State Fault Refusal := moveReg8 .a .d s

/-- LD A,E (R168). -/
def execLdAE (s : State) : Host.Outcome State Fault Refusal := moveReg8 .a .e s

/-- LD A,H (R168). -/
def execLdAH (s : State) : Host.Outcome State Fault Refusal := moveReg8 .a .h s

/-- LD A,L (R168). -/
def execLdAL (s : State) : Host.Outcome State Fault Refusal := moveReg8 .a .l s

/-- LD A,(HL) (R169). -/
def execLdAAtHl (s : State) : Host.Outcome State Fault Refusal := loadFromHl .a s

/-- LD A,A (R168). -/
def execLdAA (s : State) : Host.Outcome State Fault Refusal := moveReg8 .a .a s

/-- LDH (a8),A (R171). -/
def execLdhAtA8A (n : Byte) (s : State) : Host.Outcome State Fault Refusal := storeAHigh n s

/-- LD (C),A (R173). -/
def execLdAtCA (s : State) : Host.Outcome State Fault Refusal := storeAAtC s

/-- LD (a16),A (R175). -/
def execLdAtA16A (nn : Word) (s : State) : Host.Outcome State Fault Refusal := storeAAbs nn s

/-- LDH A,(a8) (R172). -/
def execLdhAAtA8 (n : Byte) (s : State) : Host.Outcome State Fault Refusal := loadAHigh n s

/-- LD A,(C) (R174). -/
def execLdAAtC (s : State) : Host.Outcome State Fault Refusal := loadAAtC s

/-- LD A,(a16) (R176). -/
def execLdAAtA16 (nn : Word) (s : State) : Host.Outcome State Fault Refusal := loadAAbs nn s

end Sys2Proof.Machine
end

