-- ==== Sys2Proof/Machine/Step.lean ====
section
/-! DEFINITION. One step (spec/40_execution.md R130) and the placing of an instruction where the next step fetches. -/

namespace Sys2Proof.Machine

/-- step() (R130): in the run state RUNNING one instruction is fetched and executed, and a fetch that faults takes the
fault; in every other run state nothing happens (R138). -/
def step (s : State) : Host.Outcome State Fault Refusal :=
  match s.run with
  | .stopped | .halted | .faulted => .next s
  | .running =>
    match fetchInstr s with
    | .error e => .next (s.takeFault e)
    | .ok i => exec i s

/-- The bytes of a list stored from an address on, as the program image places them (R351). -/
def State.place (s : State) (addr : Word) : List Byte → State
  | [] => s
  | v :: rest => (s.store addr v).place (addr + 1) rest

/-- The state with an instruction, given as the opcode table numbers its bits, stored at PC, the bytes after it zero up to
three (log entry 6). -/
def State.withFetchWord (s : State) (nbits w : Nat) : State :=
  s.place s.pc ((tableBytes nbits w ++ [0, 0, 0]).take 3)

end Sys2Proof.Machine
end

