-- ==== Sys2Proof/Machine/Construct.lean ====
section
/-! DEFINITION. Construction from a program image (spec/70_reset_and_hazards.md R350, R351), the only reset. -/

namespace Sys2Proof.Machine

/-- The size of ROM (R5, R61): the most bytes an image may have. -/
def romSize : Nat := 32768

/-- The region contents that hold the image bytes from an address on and 0x00 elsewhere. -/
def imageCells : Nat → List Byte → Memory
  | _, [] => []
  | a, v :: rest => if v = 0 then imageCells (a + 1) rest else (a, v) :: imageCells (a + 1) rest

/-- construct(IMAGE) (R351): ConfigError for an oversized image, else the state of R38 with ROM holding the image,
zero-padded. -/
def construct (p : Params) (image : List Byte) : Host.Outcome State Fault Refusal :=
  if image.length > romSize then .fault .configError else .next (State.initial p (imageCells 0 image))

end Sys2Proof.Machine
end

