-- ==== Sys2Proof/Machine/Report.lean ====
section
/-! DEFINITION. What step() returns beside the state (spec/40_execution.md R140), and the run loop (R139). -/

namespace Sys2Proof.Machine

/-- The outcomes of a step (R140). -/
inductive StepOutcome where
  | executed
  | stopped
  | halted
  | decodeGap (code : Word)
  | fault (kind : FaultKind)
  | notRunning
  deriving DecidableEq, Repr

/-- What step() returns: the cycles charged and the outcome (R130, R140). -/
structure Report where
  cost : Nat
  outcome : StepOutcome
  deriving DecidableEq, Repr

/-- The number of a fault kind (R321, D28). -/
def FaultKind.code : FaultKind → Nat
  | .writeRom => 1
  | .readUnmapped => 2
  | .writeUnmapped => 3
  | .decodeGap => 4

/-- The outcome of an instruction i that left the state t (R140). -/
def outcomeOf (i : Instr) (t : State) : StepOutcome :=
  match t.run, t.fault, i with
  | .faulted, some r, _ => .fault r.kind
  | .faulted, none, _ => .notRunning
  | .stopped, _, _ => .stopped
  | .halted, _, _ => .halted
  | .running, _, .invalid code => .decodeGap code
  | .running, _, _ => .executed

/-- The cycles and the outcome step() returns from the state s (R130). -/
def stepReport (s : State) : Report :=
  match s.run with
  | .stopped | .halted | .faulted => ⟨0, .notRunning⟩
  | .running =>
    match fetchInstr s with
    | .error e => ⟨0, .fault e.kind⟩
    | .ok i =>
      match exec i s with
      | .next t => ⟨t.cycles - s.cycles, outcomeOf i t⟩
      | .fault _ => ⟨0, .notRunning⟩
      | .refused _ => ⟨0, .notRunning⟩

/-- The state after a step: step() answers a next state from every state (R130). -/
def nextState (s : State) : State :=
  match step s with
  | .next t => t
  | .fault _ => s
  | .refused _ => s

/-- run() (R139) under fuel: steps while the run state is RUNNING. -/
def runFuel : Nat → State → State
  | 0, s => s
  | k + 1, s =>
    match s.run with
    | .running => runFuel k (nextState s)
    | .stopped | .halted | .faulted => s

end Sys2Proof.Machine
end

