-- ==== Sys2Proof/Machine/HostPort.lean ====
section
/-! DEFINITION. What the host may do between two steps (spec/20_memory.md R82), and a session of steps and host writes. -/

namespace Sys2Proof.Machine

/-- A backed I/O address (R66). -/
def isBackedIo (s : State) (addr : Word) : Bool := regionOf addr == .io && ioBacked s.params addr

/-- The host reads the cycle counter (R31, R82). -/
def hostReadCycles (s : State) : Nat := s.cycles

/-- The host reads a backed I/O byte (R82); nothing else is open to it. -/
def hostReadIo (s : State) (addr : Word) : Option Byte :=
  if isBackedIo s addr then some (s.mem.read addr.toNat) else none

/-- The host writes a value to a backed I/O byte (R82); nothing else is open to it. -/
def hostWriteIo (s : State) (addr : Word) (v : Byte) : Option State :=
  if isBackedIo s addr then some (s.store addr v) else none

/-- One event of a session: a step of the engine, or a host write between two steps. -/
inductive Event where
  | step
  | hostWrite (addr : Word) (v : Byte)
  deriving DecidableEq, Repr

/-- The state after an event; none where the host does what R82 does not allow it. -/
def applyEvent (s : State) : Event → Option State
  | .step => some (nextState s)
  | .hostWrite addr v => hostWriteIo s addr v

/-- The state after a session's events in order. -/
def runSession (s : State) : List Event → Option State
  | [] => some s
  | e :: rest =>
    match applyEvent s e with
    | some t => runSession t rest
    | none => none

end Sys2Proof.Machine
end

