-- ==== Sys2Proof/Safety.lean ====
section
/-! DEFINITION. What counts as a good state and a good end of a run, in the terms the statements use. -/

namespace Sys2Proof.Machine

/-- An address with storage behind it (R61 to R66): ROM, the RAM regions, and the backed I/O bytes. -/
def hasStorage (p : Params) (addr : Word) : Bool :=
  match regionOf addr with
  | .rom | .vram | .eram | .wram1 | .wram2 => true
  | .io => ioBacked p addr
  | .unmapped => false

/-- Every listed address is an address of the bus with storage behind it. -/
def State.MemPlaced (s : State) : Prop :=
  ∀ cell ∈ s.mem, cell.1 < 65536 ∧ hasStorage s.params (BitVec.ofNat 16 cell.1) = true

/-- F bits 3:0 are 0 (R22, R23). -/
def State.LowFlagsZero (s : State) : Prop := s.f &&& 0x0F = 0

/-- The fault record is none while the run state is not FAULTED, and is there while it is (R30). -/
def State.RecordMatches (s : State) : Prop := s.fault.isSome = true ↔ s.run = .faulted

/-- The invariant of the machine. -/
def State.Inv (s : State) : Prop :=
  s.mem.wf = true ∧ s.MemPlaced ∧ s.LowFlagsZero ∧ s.RecordMatches

/-- A run that ended well (R143): STOPPED or HALTED. -/
def State.EndedWell (s : State) : Prop := s.run = .stopped ∨ s.run = .halted

/-- A run that ended in failure (R143). -/
def State.EndedInFailure (s : State) : Prop := s.run = .faulted

/-- The instructions that R25 names as writers of SP. -/
def writesSp : Instr → Bool
  | .ldSpD16 _ | .ldSpHl | .addSpE8 _ | .incSp | .decSp => true
  | .pushBc | .pushDe | .pushHl | .pushAf | .popBc | .popDe | .popHl | .popAf => true
  | .callA16 _ | .callNzA16 _ | .callZA16 _ | .callNcA16 _ | .callCA16 _ => true
  | .ret | .retNz | .retZ | .retNc | .retC | .reti => true
  | .rst00 | .rst08 | .rst10 | .rst18 | .rst20 | .rst28 | .rst30 | .rst38 => true
  | _ => false

/-- The opcodes of the instructions in the table of R32, by their fields: of the primary map INC and DEC of an 8-bit operand,
ADD HL,rr, the column x7 of the quadrant x = 0 (the accumulator rotates, DAA, CPL, SCF, CCF), the accumulator operations, and
ADD SP,e8, LD HL,SP+e8 and POP AF; of the CB map the rotates, shifts, SWAP and BIT. -/
def writesFlags (i : Instr) : Bool :=
  match encode i with
  | [] => false
  | o :: rest =>
    if o = 0xCB then rest.any fun o2 => decide (fieldX o2 ≤ 1)
    else if fieldX o = 0 then decide (4 ≤ fieldZ o ∧ fieldZ o ≤ 5) || decide (fieldZ o = 7) || (decide (fieldZ o = 1) && fieldQ o)
    else if fieldX o = 2 then true
    else if fieldX o = 3 then decide (fieldZ o = 6) || decide (o = 0xE8) || decide (o = 0xF8) || decide (o = 0xF1)
    else false

/-- The instructions that write IME or EI_PENDING (R28). -/
def writesInterruptEnable : Instr → Bool
  | .di | .ei | .reti => true
  | _ => false

end Sys2Proof.Machine
end

