-- ==== Sys2Proof/Certificates/Slice0/Obligations.lean ====
section
/-! DEFINITION. The statements for the provers, each from the rules of spec/ that its docstring names, and before them the
terms they are written in: the fields of an opcode byte, the kinds of address, and what an instruction that completes leaves
behind. -/

namespace Sys2Proof.Claims

open Sys2Proof.Machine

/-! ## Fields of an opcode byte (R101 to R104, R214, R254), as they are written into an encoding -/

def regField : Reg8 → BitVec 3
  | .b => 0
  | .c => 1
  | .d => 2
  | .e => 3
  | .h => 4
  | .l => 5
  | .a => 7

def opndField : Opnd8 → BitVec 3
  | .reg r => regField r
  | .atHl => 6

def pairField : Reg16 → BitVec 2
  | .bc => 0
  | .de => 1
  | .hl => 2
  | .sp => 3

def stackField : StackReg → BitVec 2
  | .bc => 0
  | .de => 1
  | .hl => 2
  | .af => 3

def condField : Cond → BitVec 2
  | .nz => 0
  | .z => 1
  | .nc => 2
  | .c => 3

def aluField : AluOp → BitVec 3
  | .add => 0
  | .adc => 1
  | .sub => 2
  | .sbc => 3
  | .and => 4
  | .xor => 5
  | .or => 6
  | .cp => 7

def rotField : RotOp → BitVec 3
  | .rlc => 0
  | .rrc => 1
  | .rl => 2
  | .rr => 3
  | .sla => 4
  | .sra => 5
  | .swap => 6
  | .srl => 7

def idxField (y : Idx8) : BitVec 3 := BitVec.ofNat 3 y.toNat

/-- Under DECODE_SET = FULL the decoder reads the instruction from the bytes, and nothing is left over. -/
def Decodes (i : Instr) (bytes : List Byte) : Prop := decode .full bytes = .ok (i, [])

/-! ## Addresses (R61) -/

/-- ROM, 0x0000-0x7FFF. -/
abbrev InRom (a : Word) : Prop := a.toNat ≤ 0x7FFF

/-- The IO region, 0xFF00-0xFF7F. -/
abbrev InIo (a : Word) : Prop := 0xFF00 ≤ a.toNat ∧ a.toNat ≤ 0xFF7F

/-- An address whose write raises no fault: VRAM, ERAM, WRAM1, WRAM2 and IO. -/
abbrev Writable (a : Word) : Prop := (0x8000 ≤ a.toNat ∧ a.toNat ≤ 0xDFFF) ∨ InIo a

/-- An address whose read raises no fault: all but the unmapped ranges. -/
abbrev Readable (a : Word) : Prop := a.toNat ≤ 0xDFFF ∨ InIo a

/-- The unmapped ranges, 0xE000-0xFEFF and 0xFF80-0xFFFF. -/
abbrev Unmapped (a : Word) : Prop := (0xE000 ≤ a.toNat ∧ a.toNat ≤ 0xFEFF) ∨ 0xFF80 ≤ a.toNat

/-! ## Encodings -/

/-- The bytes are the encoding of the instruction under DECODE_SET = FULL: the decoder reads it from them; a step of a RUNNING
machine that finds them at PC is exec of it; and a step whose fetch finds one of them, the bytes before it being as they are,
at an unmapped address takes the fault READ_UNMAPPED there (R131, R133). -/
def EncodedAs (i : Instr) (bytes : List Byte) : Prop :=
  Decodes i bytes ∧
  ∀ s : State, s.run = .running → s.params.decodeSet = .full →
    ((∀ k (h : k < bytes.length), readByte s (s.pc + BitVec.ofNat 16 k) = .ok bytes[k]) → step s = exec i s) ∧
    ∀ k, k < bytes.length →
      (∀ j (h : j < bytes.length), j < k → readByte s (s.pc + BitVec.ofNat 16 j) = .ok bytes[j]) →
      Unmapped (s.pc + BitVec.ofNat 16 k) →
      step s = .next (s.takeFault ⟨.readUnmapped, s.pc + BitVec.ofNat 16 k⟩)

/-! ## What an instruction leaves behind -/

/-- What every instruction that completes settles: PC, the charge, the run state, that the fault record and the parameters are
as before, and, where no EI is pending, IME and EI_PENDING. (A pending EI is promoted at the end of the step by R141, which the
spec marks as its decision D22: OnlyDiEiRetiTouchInterruptEnable and InterruptEnableInstructions state that case.) -/
structure After (s t : State) (pc : Word) (cost : Nat) (ime ei : Bool) (run : RunState) : Prop where
  pc : t.pc = pc
  cycles : t.cycles = s.cycles + cost
  ime : s.eiPending = false → t.ime = ime
  eiPending : s.eiPending = false → t.eiPending = ei
  run : t.run = run
  fault : t.fault = s.fault
  params : t.params = s.params

/-- exec i s answers a next state with PC, the charge and P as given; IME, EI_PENDING, the run state and the fault record are as
before. -/
def Completes (i : Instr) (s : State) (pc : Word) (cost : Nat) (P : State → Prop) : Prop :=
  ∃ t, exec i s = .next t ∧ After s t pc cost s.ime false s.run ∧ P t

/-- exec i s raises the fault: it answers s with that fault taken. What taking a fault leaves is R137, which the spec marks as
its decision D16: FaultsArePrecise states it. -/
def FaultsWith (i : Instr) (s : State) (kind : FaultKind) (value : Word) : Prop :=
  exec i s = .next (s.takeFault ⟨kind, value⟩)

/-- Every 8-bit register but those named is as before. -/
def RegsExcept (s t : State) (rs : List Reg8) : Prop := ∀ r, r ∉ rs → t.reg8 r = s.reg8 r

/-- The halves of a pair; none for SP. -/
def halves : Reg16 → List Reg8
  | .bc => [.b, .c]
  | .de => [.d, .e]
  | .hl => [.h, .l]
  | .sp => []

/-- The four flags have these values, and F bits 3:0 are 0. -/
def FlagsAre (t : State) (z n h c : Bool) : Prop :=
  t.flagZ = z ∧ t.flagN = n ∧ t.flagH = h ∧ t.flagC = c ∧ t.f &&& 0x0F = 0

/-- Every byte of the bus reads as before. -/
def MemSame (s t : State) : Prop := ∀ x, readByte t x = readByte s x

/-- What a writable address reads as after v was written to it: v, or 0x00 for an unbacked I/O address. -/
def heldAt (s : State) (a : Word) (v : Byte) : Access Byte := if hasStorage s.params a then .ok v else .ok 0

/-- The byte v was stored at a, and every other byte reads as before. -/
def StoredAt (s t : State) (a : Word) (v : Byte) : Prop :=
  readByte t a = heldAt s a v ∧ ∀ x, x ≠ a → readByte t x = readByte s x

/-- The bytes v and w were stored at a and b, and every other byte reads as before. -/
def StoredTwo (s t : State) (a : Word) (v : Byte) (b : Word) (w : Byte) : Prop :=
  readByte t a = heldAt s a v ∧ readByte t b = heldAt s b w ∧ ∀ x, x ≠ a → x ≠ b → readByte t x = readByte s x

/-- The registers, F, SP and memory are as before: only what After says has changed. -/
def OnlyAdvanced (s t : State) : Prop := RegsExcept s t [] ∧ t.f = s.f ∧ t.sp = s.sp ∧ MemSame s t

/-- A store of the byte v at a high-page address a: it completes with the registers of rs changed as P says, or faults. -/
def HighStoreForm (i : Instr) (s : State) (a : Word) (v : Byte) (pc : Word) (cost : Nat) (rs : List Reg8)
    (P : State → Prop) : Prop :=
  (Writable a → Completes i s pc cost fun t =>
    StoredAt s t a v ∧ RegsExcept s t rs ∧ P t ∧ t.f = s.f ∧ t.sp = s.sp) ∧
  (Unmapped a → FaultsWith i s .writeUnmapped a)

/-- A store of the byte v at a, on every address. -/
def StoreForm (i : Instr) (s : State) (a : Word) (v : Byte) (pc : Word) (cost : Nat) (rs : List Reg8) (P : State → Prop) :
    Prop :=
  HighStoreForm i s a v pc cost rs P ∧ (InRom a → FaultsWith i s .writeRom a)

/-- A load of the byte at a, on every address: it completes with the registers of rs changed as P says of the byte, or
faults. -/
def LoadForm (i : Instr) (s : State) (a : Word) (pc : Word) (cost : Nat) (rs : List Reg8) (P : Byte → State → Prop) : Prop :=
  (∀ v, readByte s a = .ok v → Completes i s pc cost fun t =>
    P v t ∧ RegsExcept s t rs ∧ t.f = s.f ∧ t.sp = s.sp ∧ MemSame s t) ∧
  (Unmapped a → FaultsWith i s .readUnmapped a)

/-- The faults of a read-modify-write at HL (R327): unmapped on the read, ROM on the write. -/
def ModifyFaults (i : Instr) (s : State) : Prop :=
  (InRom s.hl → FaultsWith i s .writeRom s.hl) ∧ (Unmapped s.hl → FaultsWith i s .readUnmapped s.hl)

/-- The faults of a push (R194, R327): the first failing store, the one at SP - 1 before the one at SP - 2. -/
def PushFaults (i : Instr) (s : State) : Prop :=
  (InRom (s.sp - 1) → FaultsWith i s .writeRom (s.sp - 1)) ∧
  (Unmapped (s.sp - 1) → FaultsWith i s .writeUnmapped (s.sp - 1)) ∧
  (Writable (s.sp - 1) → InRom (s.sp - 2) → FaultsWith i s .writeRom (s.sp - 2)) ∧
  (Writable (s.sp - 1) → Unmapped (s.sp - 2) → FaultsWith i s .writeUnmapped (s.sp - 2))

/-- The faults of a pop (R195, R327): the first unmapped read, the one at SP before the one at SP + 1. -/
def PopFaults (i : Instr) (s : State) : Prop :=
  (Unmapped s.sp → FaultsWith i s .readUnmapped s.sp) ∧
  (Readable s.sp → Unmapped (s.sp + 1) → FaultsWith i s .readUnmapped (s.sp + 1))

/-- After a push of v: the high byte at SP - 1, the low byte at SP - 2, SP two lower, registers and flags as before. -/
def Pushed (s t : State) (v : Word) : Prop :=
  StoredTwo s t (s.sp - 1) (hiByte v) (s.sp - 2) (loByte v) ∧ t.sp = s.sp - 2 ∧ RegsExcept s t [] ∧ t.f = s.f

/-- The value PUSH pushes (R24, R103, R194). -/
def pushedValue (s : State) : StackReg → Word
  | .bc => pair s.b s.c
  | .de => pair s.d s.e
  | .hl => pair s.h s.l
  | .af => pair s.a (s.f &&& 0xF0)

/-- A call that pushes pc1 and goes to a target. -/
def CallForm (i : Instr) (s : State) (target pc1 : Word) (cost : Nat) : Prop :=
  (Writable (s.sp - 1) → Writable (s.sp - 2) → Completes i s target cost fun t => Pushed s t pc1) ∧ PushFaults i s

/-- A value 0 or 1 from a flag. -/
def bit (c : Bool) : Nat := if c then 1 else 0

/-- A, and the four flags after an accumulator operation (R215 to R222), as arithmetic on the values A and v before it. -/
def AluLeaves (op : AluOp) (a v : Byte) (c : Bool) (t : State) : Prop :=
  match op with
  | .add => t.a = a + v ∧ FlagsAre t (a + v == 0) false (decide (15 < a.toNat % 16 + v.toNat % 16))
      (decide (255 < a.toNat + v.toNat))
  | .adc => t.a = a + v + BitVec.ofNat 8 (bit c) ∧ FlagsAre t (a + v + BitVec.ofNat 8 (bit c) == 0) false
      (decide (15 < a.toNat % 16 + v.toNat % 16 + bit c)) (decide (255 < a.toNat + v.toNat + bit c))
  | .sub => t.a = a - v ∧ FlagsAre t (a - v == 0) true (decide (a.toNat % 16 < v.toNat % 16)) (decide (a.toNat < v.toNat))
  | .sbc => t.a = a - v - BitVec.ofNat 8 (bit c) ∧ FlagsAre t (a - v - BitVec.ofNat 8 (bit c) == 0) true
      (decide (a.toNat % 16 < v.toNat % 16 + bit c)) (decide (a.toNat < v.toNat + bit c))
  | .and => t.a = a &&& v ∧ FlagsAre t (a &&& v == 0) false true false
  | .xor => t.a = a ^^^ v ∧ FlagsAre t (a ^^^ v == 0) false false false
  | .or => t.a = a ||| v ∧ FlagsAre t (a ||| v == 0) false false false
  | .cp => t.a = a ∧ FlagsAre t (a - v == 0) true (decide (a.toNat % 16 < v.toNat % 16)) (decide (a.toNat < v.toNat))

/-- The result of a rotate, shift or swap of v with C = c (R250 to R253, R255 to R262), as a rotation or a shift. -/
def rotated (op : RotOp) (v : Byte) (c : Bool) : Byte :=
  match op with
  | .rlc => v.rotateLeft 1
  | .rrc => v.rotateRight 1
  | .rl => (v <<< 1) ||| (if c then 0x01 else 0x00)
  | .rr => (v >>> 1) ||| (if c then 0x80 else 0x00)
  | .sla => v <<< 1
  | .sra => v.sshiftRight 1
  | .swap => v.rotateLeft 4
  | .srl => v >>> 1

/-- The C flag after it: the bit moved out, and 0 for SWAP (R261). -/
def movedOut (op : RotOp) (v : Byte) : Bool :=
  match op with
  | .rlc | .rl | .sla => v.getLsbD 7
  | .rrc | .rr | .sra | .srl => v.getLsbD 0
  | .swap => false

/-- A with the bit b of v: v AND NOT (1 << b), or v OR (1 << b). -/
def withBit (set : Bool) (b : Idx8) (v : Byte) : Byte :=
  if set then v ||| (1#8 <<< b.toNat) else v &&& ~~~(1#8 <<< b.toNat)

/-- ROM holds this program image, zero-padded (R64, R351). -/
def RomHolds (image : List Byte) (s : State) : Prop :=
  ∀ k, k < 32768 → readByte s (BitVec.ofNat 16 k) = .ok (image.getD k 0)

/-- Two decimal digits as a packed byte (the operands of R223). -/
def packed (n : Nat) : Byte := BitVec.ofNat 8 (n / 10 * 16 + n % 10)

end Sys2Proof.Claims

open Sys2Proof Sys2Proof.Machine Sys2Proof.Claims

/-! ## Decoding -/

/-- The decoder reads every well-formed instruction back from its encoding, operands at every value, whatever bytes follow;
and the escape byte alone as the escape (R100, R105, R107, R108, R110). -/
def Obligations.DecodeOfEncodeIsInstruction : Prop :=
  (∀ (ds : DecodeSet) (i : Instr) (rest : List Byte), WellFormed ds i = true → i ≠ .prefixCb →
    decode ds (encode i ++ rest) = .ok (i, rest)) ∧
  ∀ ds : DecodeSet, decode ds (encode .prefixCb) = .ok (.prefixCb, [])

/-- Whatever the decoder reads is well-formed, and the bytes it read are that instruction's encoding: two instructions share
no bytes. -/
def Obligations.DecodedBytesAreTheEncoding : Prop :=
  ∀ (ds : DecodeSet) (bytes : List Byte) (i : Instr) (rest : List Byte), decode ds bytes = .ok (i, rest) →
    bytes = encode i ++ rest ∧ WellFormed ds i = true

/-- Every opcode byte decodes, and the first byte alone fixes the length: the grid of R107, two bytes after the escape
(R100, R111). -/
def Obligations.FirstByteFixesLength : Prop :=
  ∀ (o n m : Byte) (rest : List Byte),
    ∃ i, decode .full (o :: n :: m :: rest) = .ok (i, (o :: n :: m :: rest).drop (lengthOf o))

/-- Exactly the eleven bytes of R109 decode to Invalid, each with its own code. -/
def Obligations.IllegalBytesDecodeToInvalid : Prop :=
  ∀ (o : Byte) (rest : List Byte),
    (o ∈ [0xD3, 0xDB, 0xDD, 0xE3, 0xE4, 0xEB, 0xEC, 0xED, 0xF4, 0xFC, 0xFD] →
      decode .full (o :: rest) = .ok (.invalid (BitVec.ofNat 16 o.toNat), rest)) ∧
    (o ∉ [0xD3, 0xDB, 0xDD, 0xE3, 0xE4, 0xEB, 0xEC, 0xED, 0xF4, 0xFC, 0xFD] →
      ∀ code rest', decode .full (o :: rest) ≠ .ok (.invalid code, rest'))

/-- Under DECODE_SET = DOCUMENTED the documented opcodes decode as under FULL, every other primary byte is Invalid, and
every CB-table byte is Invalid with the code 0xCB00 + op2 (R110, decision D1). -/
def Obligations.DocumentedSetRestrictsDecoding : Prop :=
  (∀ (o : Byte) (rest : List Byte), documentedOpcodes.contains o = false →
    decode .documented (o :: rest) = .ok (.invalid (BitVec.ofNat 16 o.toNat), rest)) ∧
  (∀ (o : Byte) (rest : List Byte), documentedOpcodes.contains o = true → o ≠ 0xCB →
    decode .documented (o :: rest) = decode .full (o :: rest)) ∧
  ∀ (o2 : Byte) (rest : List Byte),
    decode .documented (0xCB :: o2 :: rest) = .ok (.invalid (BitVec.ofNat 16 (0xCB00 + o2.toNat)), rest)

/-- Some cells of the maps of R107 and R108, one or two of each family. -/
def Obligations.SampleWordsDecode : Prop :=
  Decodes (.ldBD8 0xDD) [0x06, 0xDD] ∧ Decodes .ldAtHlDecA [0x32] ∧ Decodes .ldDL [0x55] ∧
  Decodes (.ldHlD16 0x1234) [0x21, 0x34, 0x12] ∧ Decodes .pushAf [0xF5] ∧ Decodes .decAtHl [0x35] ∧
  Decodes .sbcAH [0x9C] ∧ Decodes (.cpD8 0x40) [0xFE, 0x40] ∧ Decodes .addHlSp [0x39] ∧ Decodes .rra [0x1F] ∧
  Decodes .swapA [0xCB, 0x37] ∧ Decodes .bit7H [0xCB, 0x7C] ∧ Decodes .res0AtHl [0xCB, 0x86] ∧
  Decodes (.jrNzE8 0xFD) [0x20, 0xFD] ∧ Decodes (.callA16 0x0200) [0xCD, 0x00, 0x02] ∧ Decodes .rst28 [0xEF] ∧
  Decodes .halt [0x76] ∧ Decodes .ei [0xFB]

/-- When the bytes at PC decode to an instruction, a step of a RUNNING machine is exec of it at that state: exec itself moves
PC past the bytes (R130, R132). -/
def Obligations.StepRunsDecodedInstruction : Prop :=
  ∀ (s : State) (bytes : List Byte) (i : Instr), s.run = .running →
    decode s.params.decodeSet bytes = .ok (i, []) → i ≠ .prefixCb →
    (∀ k (h : k < bytes.length), readByte s (s.pc + BitVec.ofNat 16 k) = .ok bytes[k]) →
    step s = exec i s

/-- A fetch from an unmapped address faults: at the opcode, at the byte after the escape or the first operand byte, and at
the second operand byte (R131, R133). -/
def Obligations.FetchFromUnmappedFaults : Prop :=
  ∀ s : State, s.run = .running →
    (Unmapped s.pc → step s = .next { s with run := .faulted, fault := some ⟨.readUnmapped, s.pc, s.pc⟩ }) ∧
    (s.params.decodeSet = .full → ∀ o, readByte s s.pc = .ok o → 2 ≤ lengthOf o → Unmapped (s.pc + 1) →
      step s = .next { s with run := .faulted, fault := some ⟨.readUnmapped, s.pc + 1, s.pc⟩ }) ∧
    (s.params.decodeSet = .full → ∀ o, readByte s s.pc = .ok o → lengthOf o = 3 → Readable (s.pc + 1) →
      Unmapped (s.pc + 2) → step s = .next { s with run := .faulted, fault := some ⟨.readUnmapped, s.pc + 2, s.pc⟩ })

/-! ## The bus -/

/-- MemRead follows the region table (R62, R66). -/
def Obligations.MemReadFollowsRegionTable : Prop :=
  ∀ (s : State) (a : Word),
    (a.toNat ≤ 0xDFFF → readByte s a = .ok (s.mem.read a.toNat)) ∧
    (InIo a → ioBacked s.params a = true → readByte s a = .ok (s.mem.read a.toNat)) ∧
    (InIo a → ioBacked s.params a = false → readByte s a = .ok 0) ∧
    (Unmapped a → readByte s a = .error ⟨.readUnmapped, a⟩)

/-- MemWrite (R63): a writable address takes the byte, an unbacked I/O address discards it, every other byte and every
register is as before; ROM and unmapped addresses fault. -/
def Obligations.MemWriteThenRead : Prop :=
  ∀ (s : State) (a : Word) (v : Byte),
    (Writable a → ∃ t, writeByte s a v = .ok t ∧ StoredAt s t a v ∧ { t with mem := s.mem } = s) ∧
    (InRom a → writeByte s a v = .error ⟨.writeRom, a⟩) ∧
    (Unmapped a → writeByte s a v = .error ⟨.writeUnmapped, a⟩)

/-- A 16-bit access is two byte accesses, the low byte at the lower address, addresses wrapping (R69, decision D17): what
MemWrite(addr, 2, v) stored, MemRead(addr, 2) reads; each faults on its first failing byte. -/
def Obligations.SixteenBitAccessIsLittleEndian : Prop :=
  ∀ (s : State) (a v : Word),
    (Writable a → Writable (a + 1) → ∃ t, writeWord s a v = .ok t ∧
      StoredTwo s t a (v.extractLsb' 0 8) (a + 1) (v.extractLsb' 8 8) ∧
      (hasStorage s.params a = true → hasStorage s.params (a + 1) = true → readWord t a = .ok v)) ∧
    (InRom a → writeWord s a v = .error ⟨.writeRom, a⟩) ∧
    (Unmapped a → writeWord s a v = .error ⟨.writeUnmapped, a⟩) ∧
    (Writable a → Unmapped (a + 1) → writeWord s a v = .error ⟨.writeUnmapped, a + 1⟩) ∧
    (Unmapped a → readWord s a = .error ⟨.readUnmapped, a⟩) ∧
    (Readable a → Unmapped (a + 1) → readWord s a = .error ⟨.readUnmapped, a + 1⟩)

/-- ROM holds the program image for the whole session (R64): reading gives the image's byte, or 0x00 past its end, a write
faults, and no step changes it. -/
def Obligations.RomHoldsTheImageAfterEveryStep : Prop :=
  ∀ (image : List Byte) (s : State), RomHolds image s →
    (∀ a, InRom a → readByte s a = .ok (image.getD a.toNat 0)) ∧
    (∀ a v, InRom a → writeByte s a v = .error ⟨.writeRom, a⟩) ∧
    ∀ t, step s = .next t → RomHolds image t

/-! ## Registers and flags -/

/-- The pair views (R24): reading a pair is its first register times 256 plus its second; writing a pair and reading it, and its
halves; AF reads back without the low nibble of F (which the spec derives from R23); the other pairs and SP are as before; an
8-bit write to one half leaves the other. -/
def Obligations.PairViewsAreInverse : Prop :=
  ∀ (s : State) (v : Word),
    ((s.reg16 .bc).toNat = s.b.toNat * 256 + s.c.toNat ∧ (s.reg16 .de).toNat = s.d.toNat * 256 + s.e.toNat ∧
      (s.reg16 .hl).toNat = s.h.toNat * 256 + s.l.toNat) ∧
    (∀ r, (s.setReg16 r v).reg16 r = v) ∧
    (∀ r q, q ≠ r → (s.setReg16 r v).reg16 q = s.reg16 q) ∧
    ((s.setReg16 .bc v).b = v.extractLsb' 8 8 ∧ (s.setReg16 .bc v).c = v.extractLsb' 0 8) ∧
    ((s.setReg16 .de v).d = v.extractLsb' 8 8 ∧ (s.setReg16 .de v).e = v.extractLsb' 0 8) ∧
    ((s.setReg16 .hl v).h = v.extractLsb' 8 8 ∧ (s.setReg16 .hl v).l = v.extractLsb' 0 8) ∧
    ((s.setStackReg .af v).a = v.extractLsb' 8 8 ∧ (s.setStackReg .af v).f = v.extractLsb' 0 8 &&& 0xF0) ∧
    (s.setStackReg .af v).stackReg .af = v &&& 0xFFF0 ∧
    ∀ (r q : Reg8) (n : Byte), q ≠ r → (s.setReg8 r n).reg8 q = s.reg8 q

/-- Flags(z, n, h, c) writes the flags given a value, leaves the others, keeps F bits 3:0 at 0, and changes nothing but F
(R23). -/
def Obligations.FlagUpdateTouchesOnlyGivenFlags : Prop :=
  ∀ (s : State) (z n h c : Option Bool),
    FlagsAre (s.setFlags z n h c) (z.getD s.flagZ) (n.getD s.flagN) (h.getD s.flagH) (c.getD s.flagC) ∧
    { s.setFlags z n h c with f := s.f } = s

/-! ## 8-bit loads and stores -/

/-- LD r,d8 (R160). -/
def Obligations.LoadImmediateIntoRegister : Prop :=
  ∀ (r : Reg8) (n : Byte) (s : State),
    EncodedAs (.ofLdImm8 (.reg r) n) [0b00#2 ++ regField r ++ 0b110#3, n] ∧
    Completes (.ofLdImm8 (.reg r) n) s (s.pc + 2) 2 fun t =>
      t.reg8 r = n ∧ RegsExcept s t [r] ∧ t.f = s.f ∧ t.sp = s.sp ∧ MemSame s t

/-- The byte stores: LD (HL),d8 (R161), LD (BC),A and LD (DE),A (R162), LD (HL+),A (R164) and LD (HL-),A (R165), which store
at the old HL and then move HL by one, LD (HL),r (R170), LDH (a8),A (R171), LD (C),A (R173), LD (a16),A (R175). -/
def Obligations.ByteStores : Prop :=
  ∀ s : State,
    (∀ n, EncodedAs (.ldAtHlD8 n) [0x36, n] ∧ StoreForm (.ldAtHlD8 n) s s.hl n (s.pc + 2) 3 [] fun _ => True) ∧
    (EncodedAs .ldAtBcA [0x02] ∧ StoreForm .ldAtBcA s (s.reg16 .bc) s.a (s.pc + 1) 2 [] fun _ => True) ∧
    (EncodedAs .ldAtDeA [0x12] ∧ StoreForm .ldAtDeA s (s.reg16 .de) s.a (s.pc + 1) 2 [] fun _ => True) ∧
    (EncodedAs .ldAtHlIncA [0x22] ∧
      StoreForm .ldAtHlIncA s s.hl s.a (s.pc + 1) 2 [.h, .l] fun t => t.hl = s.hl + 1) ∧
    (EncodedAs .ldAtHlDecA [0x32] ∧
      StoreForm .ldAtHlDecA s s.hl s.a (s.pc + 1) 2 [.h, .l] fun t => t.hl = s.hl - 1) ∧
    (∀ r, EncodedAs (.ofLdToHl r) [0b01#2 ++ 0b110#3 ++ regField r] ∧
      StoreForm (.ofLdToHl r) s s.hl (s.reg8 r) (s.pc + 1) 2 [] fun _ => True) ∧
    (∀ n : Byte, EncodedAs (.ldhAtA8A n) [0xE0, n] ∧
      HighStoreForm (.ldhAtA8A n) s (BitVec.ofNat 16 (0xFF00 + n.toNat)) s.a (s.pc + 2) 3 [] fun _ => True) ∧
    (EncodedAs .ldAtCA [0xE2] ∧
      HighStoreForm .ldAtCA s (BitVec.ofNat 16 (0xFF00 + s.c.toNat)) s.a (s.pc + 1) 2 [] fun _ => True) ∧
    ∀ nn : Word, EncodedAs (.ldAtA16A nn) [0xEA, nn.extractLsb' 0 8, nn.extractLsb' 8 8] ∧
      StoreForm (.ldAtA16A nn) s nn s.a (s.pc + 3) 4 [] fun _ => True

/-- The byte loads: LD A,(BC) and LD A,(DE) (R163), LD A,(HL+) (R166) and LD A,(HL-) (R167), which load from the old HL and
then move HL by one, LD r,(HL) with HL as it was before the write (R169), LDH A,(a8) (R172), LD A,(C) (R174), LD A,(a16)
(R176). -/
def Obligations.ByteLoads : Prop :=
  ∀ s : State,
    (EncodedAs .ldAAtBc [0x0A] ∧ LoadForm .ldAAtBc s (s.reg16 .bc) (s.pc + 1) 2 [.a] fun v t => t.a = v) ∧
    (EncodedAs .ldAAtDe [0x1A] ∧ LoadForm .ldAAtDe s (s.reg16 .de) (s.pc + 1) 2 [.a] fun v t => t.a = v) ∧
    (EncodedAs .ldAAtHlInc [0x2A] ∧
      LoadForm .ldAAtHlInc s s.hl (s.pc + 1) 2 [.a, .h, .l] fun v t => t.a = v ∧ t.hl = s.hl + 1) ∧
    (EncodedAs .ldAAtHlDec [0x3A] ∧
      LoadForm .ldAAtHlDec s s.hl (s.pc + 1) 2 [.a, .h, .l] fun v t => t.a = v ∧ t.hl = s.hl - 1) ∧
    (∀ r, EncodedAs (.ofLdFromHl r) [0b01#2 ++ regField r ++ 0b110#3] ∧
      LoadForm (.ofLdFromHl r) s s.hl (s.pc + 1) 2 [r] fun v t => t.reg8 r = v) ∧
    (∀ n : Byte, EncodedAs (.ldhAAtA8 n) [0xF0, n] ∧
      LoadForm (.ldhAAtA8 n) s (BitVec.ofNat 16 (0xFF00 + n.toNat)) (s.pc + 2) 3 [.a] fun v t => t.a = v) ∧
    (EncodedAs .ldAAtC [0xF2] ∧
      LoadForm .ldAAtC s (BitVec.ofNat 16 (0xFF00 + s.c.toNat)) (s.pc + 1) 2 [.a] fun v t => t.a = v) ∧
    ∀ nn : Word, EncodedAs (.ldAAtA16 nn) [0xFA, nn.extractLsb' 0 8, nn.extractLsb' 8 8] ∧
      LoadForm (.ldAAtA16 nn) s nn (s.pc + 3) 4 [.a] fun v t => t.a = v

/-- LD r,r' (R168), the 49 opcodes. -/
def Obligations.RegisterMove : Prop :=
  ∀ (dst src : Reg8) (s : State),
    EncodedAs (.ofLdReg dst src) [0b01#2 ++ regField dst ++ regField src] ∧
    Completes (.ofLdReg dst src) s (s.pc + 1) 1 fun t =>
      t.reg8 dst = s.reg8 src ∧ RegsExcept s t [dst] ∧ t.f = s.f ∧ t.sp = s.sp ∧ MemSame s t

/-! ## 16-bit loads and the stack -/

/-- LD rr,d16 (R190), SP among the pairs. -/
def Obligations.LoadImmediateIntoPair : Prop :=
  ∀ (r : Reg16) (nn : Word) (s : State),
    EncodedAs (.ofLdImm16 r nn) [0b00#2 ++ pairField r ++ 0b0001#4, nn.extractLsb' 0 8, nn.extractLsb' 8 8] ∧
    Completes (.ofLdImm16 r nn) s (s.pc + 3) 3 fun t =>
      t.reg16 r = nn ∧ RegsExcept s t (halves r) ∧ (r ≠ .sp → t.sp = s.sp) ∧ t.f = s.f ∧ MemSame s t

/-- LD (a16),SP (R191): little-endian, the first failing store faults, and then neither byte is stored. -/
def Obligations.StoreStackPointer : Prop :=
  ∀ (nn : Word) (s : State),
    EncodedAs (.ldAtA16Sp nn) [0x08, nn.extractLsb' 0 8, nn.extractLsb' 8 8] ∧
    (Writable nn → Writable (nn + 1) → Completes (.ldAtA16Sp nn) s (s.pc + 3) 5 fun t =>
      StoredTwo s t nn (s.sp.extractLsb' 0 8) (nn + 1) (s.sp.extractLsb' 8 8) ∧ RegsExcept s t [] ∧ t.f = s.f ∧
        t.sp = s.sp) ∧
    (InRom nn → FaultsWith (.ldAtA16Sp nn) s .writeRom nn) ∧
    (Unmapped nn → FaultsWith (.ldAtA16Sp nn) s .writeUnmapped nn) ∧
    (Writable nn → Unmapped (nn + 1) → FaultsWith (.ldAtA16Sp nn) s .writeUnmapped (nn + 1))

/-- LD SP,HL (R192) and LD HL,SP+e8 (R193): the displacement is signed, H and C come from the unsigned addition of the low
byte of SP and the raw byte e. -/
def Obligations.StackPointerTransfers : Prop :=
  ∀ s : State,
    (EncodedAs .ldSpHl [0xF9] ∧ Completes .ldSpHl s (s.pc + 1) 2 fun t =>
      t.sp = s.hl ∧ RegsExcept s t [] ∧ t.f = s.f ∧ MemSame s t) ∧
    ∀ e : Byte, EncodedAs (.ldHlSpE8 e) [0xF8, e] ∧ Completes (.ldHlSpE8 e) s (s.pc + 2) 3 fun t =>
      t.hl = s.sp + e.signExtend 16 ∧ RegsExcept s t [.h, .l] ∧ t.sp = s.sp ∧ MemSame s t ∧
      FlagsAre t false false (decide (15 < s.sp.toNat % 16 + e.toNat % 16)) (decide (255 < s.sp.toNat % 256 + e.toNat))

/-- PUSH rr (R194): AF is pushed with F bits 3:0 zero. -/
def Obligations.PushStoresHighByteFirst : Prop :=
  ∀ (r : StackReg) (s : State),
    EncodedAs (.ofPush r) [0b11#2 ++ stackField r ++ 0b0101#4] ∧
    (Writable (s.sp - 1) → Writable (s.sp - 2) → Completes (.ofPush r) s (s.pc + 1) 4 fun t =>
      Pushed s t (pushedValue s r)) ∧
    PushFaults (.ofPush r) s

/-- POP rr (R195) and POP AF (R196): the low byte from SP, the high byte from SP + 1; POP AF sets the four flags from bits 7
to 4 of the low byte and keeps F bits 3:0 at 0. -/
def Obligations.PopLoadsLowByteFirst : Prop :=
  ∀ (s : State) (lo hi : Byte),
    (readByte s s.sp = .ok lo → readByte s (s.sp + 1) = .ok hi →
      (∀ (r : StackReg) (p : Reg16), (r, p) ∈ [(.bc, .bc), (.de, .de), (.hl, .hl)] →
        EncodedAs (.ofPop r) [0b11#2 ++ stackField r ++ 0b0001#4] ∧
        Completes (.ofPop r) s (s.pc + 1) 3 fun t =>
          t.reg16 p = pair hi lo ∧ t.sp = s.sp + 2 ∧ RegsExcept s t (halves p) ∧ t.f = s.f ∧ MemSame s t) ∧
      EncodedAs .popAf [0xF1] ∧
      Completes .popAf s (s.pc + 1) 3 fun t =>
        t.a = hi ∧ t.f = lo &&& 0xF0 ∧
        FlagsAre t (lo.getLsbD 7) (lo.getLsbD 6) (lo.getLsbD 5) (lo.getLsbD 4) ∧
        t.sp = s.sp + 2 ∧ RegsExcept s t [.a] ∧ MemSame s t) ∧
    ∀ r, PopFaults (.ofPop r) s

/-! ## 8-bit arithmetic and logic -/

/-- INC r (R210) and DEC r (R212): C is unchanged. -/
def Obligations.RegisterIncrementAndDecrement : Prop :=
  ∀ (r : Reg8) (s : State),
    (EncodedAs (.ofInc (.reg r)) [0b00#2 ++ regField r ++ 0b100#3] ∧
      Completes (.ofInc (.reg r)) s (s.pc + 1) 1 fun t =>
        t.reg8 r = s.reg8 r + 1 ∧
        FlagsAre t (s.reg8 r + 1 == 0) false (decide ((s.reg8 r).toNat % 16 = 15)) s.flagC ∧
        RegsExcept s t [r] ∧ t.sp = s.sp ∧ MemSame s t) ∧
    (EncodedAs (.ofDec (.reg r)) [0b00#2 ++ regField r ++ 0b101#3] ∧
      Completes (.ofDec (.reg r)) s (s.pc + 1) 1 fun t =>
        t.reg8 r = s.reg8 r - 1 ∧
        FlagsAre t (s.reg8 r - 1 == 0) true (decide ((s.reg8 r).toNat % 16 = 0)) s.flagC ∧
        RegsExcept s t [r] ∧ t.sp = s.sp ∧ MemSame s t)

/-- INC (HL) (R211) and DEC (HL) (R213): the byte at HL is read and written back; an unbacked I/O byte reads 0x00 and the
write is discarded; ROM faults on the write, an unmapped HL on the read. -/
def Obligations.MemoryIncrementAndDecrement : Prop :=
  ∀ s : State,
    (EncodedAs .incAtHl [0x34] ∧ ModifyFaults .incAtHl s ∧
      ∀ v, Writable s.hl → readByte s s.hl = .ok v → Completes .incAtHl s (s.pc + 1) 3 fun t =>
        StoredAt s t s.hl (v + 1) ∧ FlagsAre t (v + 1 == 0) false (decide (v.toNat % 16 = 15)) s.flagC ∧
        RegsExcept s t [] ∧ t.sp = s.sp) ∧
    (EncodedAs .decAtHl [0x35] ∧ ModifyFaults .decAtHl s ∧
      ∀ v, Writable s.hl → readByte s s.hl = .ok v → Completes .decAtHl s (s.pc + 1) 3 fun t =>
        StoredAt s t s.hl (v - 1) ∧ FlagsAre t (v - 1 == 0) true (decide (v.toNat % 16 = 0)) s.flagC ∧
        RegsExcept s t [] ∧ t.sp = s.sp)

/-- The eight accumulator operations in their register, (HL) and immediate forms (R214 to R222). -/
def Obligations.AccumulatorOperations : Prop :=
  ∀ (op : AluOp) (s : State),
    (∀ r, EncodedAs (.ofAlu op (.reg r)) [0b10#2 ++ aluField op ++ regField r] ∧
      Completes (.ofAlu op (.reg r)) s (s.pc + 1) 1 fun t =>
        AluLeaves op s.a (s.reg8 r) s.flagC t ∧ RegsExcept s t [.a] ∧ t.sp = s.sp ∧ MemSame s t) ∧
    (EncodedAs (.ofAlu op .atHl) [0b10#2 ++ aluField op ++ 0b110#3] ∧
      (∀ v, readByte s s.hl = .ok v → Completes (.ofAlu op .atHl) s (s.pc + 1) 2 fun t =>
        AluLeaves op s.a v s.flagC t ∧ RegsExcept s t [.a] ∧ t.sp = s.sp ∧ MemSame s t) ∧
      (Unmapped s.hl → FaultsWith (.ofAlu op .atHl) s .readUnmapped s.hl)) ∧
    ∀ n, EncodedAs (.ofAluImm op n) [0b11#2 ++ aluField op ++ 0b110#3, n] ∧
      Completes (.ofAluImm op n) s (s.pc + 2) 2 fun t =>
        AluLeaves op s.a n s.flagC t ∧ RegsExcept s t [.a] ∧ t.sp = s.sp ∧ MemSame s t

/-- DAA (R223), on every A and every setting of the flags. -/
def Obligations.DecimalAdjust : Prop :=
  ∀ s : State, EncodedAs .daa [0x27] ∧ Completes .daa s (s.pc + 1) 1 fun t =>
    (s.flagN = false → ∃ high low : Nat,
      high = (if s.flagC = true ∨ 0x99 < s.a.toNat then 0x60 else 0) ∧
      low = (if s.flagH = true ∨ 9 < s.a.toNat % 16 then 0x06 else 0) ∧
      t.a = BitVec.ofNat 8 (s.a.toNat + high + low) ∧
      FlagsAre t (t.a == 0) false false (s.flagC || decide (0x99 < s.a.toNat))) ∧
    (s.flagN = true → ∃ high low : Nat,
      high = (if s.flagC = true then 0x60 else 0) ∧ low = (if s.flagH = true then 0x06 else 0) ∧
      t.a = BitVec.ofInt 8 ((s.a.toNat : Int) - high - low) ∧ FlagsAre t (t.a == 0) true false s.flagC) ∧
    RegsExcept s t [.a] ∧ t.sp = s.sp ∧ MemSame s t

/-- ADD then DAA adds packed decimal numbers: two digits of the sum in A, and C when there is a third (R215, R223). -/
def Obligations.AddThenAdjustAddsDecimals : Prop :=
  ∀ (x y : Nat) (s : State), x < 100 → y < 100 → s.a = packed x →
    ∃ t u, exec (.addAD8 (packed y)) s = .next t ∧ exec .daa t = .next u ∧
      u.a = packed ((x + y) % 100) ∧ u.flagC = decide (100 ≤ x + y) ∧ u.flagZ = decide ((x + y) % 100 = 0)

/-- CPL (R224), SCF (R225) and CCF (R226). -/
def Obligations.ComplementAndCarryFlag : Prop :=
  ∀ s : State,
    (EncodedAs .cpl [0x2F] ∧ Completes .cpl s (s.pc + 1) 1 fun t =>
      t.a = ~~~s.a ∧ FlagsAre t s.flagZ true true s.flagC ∧ RegsExcept s t [.a] ∧ t.sp = s.sp ∧ MemSame s t) ∧
    (EncodedAs .scf [0x37] ∧ Completes .scf s (s.pc + 1) 1 fun t =>
      FlagsAre t s.flagZ false false true ∧ RegsExcept s t [] ∧ t.sp = s.sp ∧ MemSame s t) ∧
    (EncodedAs .ccf [0x3F] ∧ Completes .ccf s (s.pc + 1) 1 fun t =>
      FlagsAre t s.flagZ false false (!s.flagC) ∧ RegsExcept s t [] ∧ t.sp = s.sp ∧ MemSame s t)

/-! ## 16-bit arithmetic -/

/-- INC rr (R240) and DEC rr (R241): the pair as a unit, no flag. -/
def Obligations.PairIncrementAndDecrement : Prop :=
  ∀ (r : Reg16) (s : State),
    (EncodedAs (.ofInc16 r) [0b00#2 ++ pairField r ++ 0b0011#4] ∧
      Completes (.ofInc16 r) s (s.pc + 1) 2 fun t =>
        t.reg16 r = s.reg16 r + 1 ∧ RegsExcept s t (halves r) ∧ (r ≠ .sp → t.sp = s.sp) ∧ t.f = s.f ∧ MemSame s t) ∧
    (EncodedAs (.ofDec16 r) [0b00#2 ++ pairField r ++ 0b1011#4] ∧
      Completes (.ofDec16 r) s (s.pc + 1) 2 fun t =>
        t.reg16 r = s.reg16 r - 1 ∧ RegsExcept s t (halves r) ∧ (r ≠ .sp → t.sp = s.sp) ∧ t.f = s.f ∧ MemSame s t)

/-- ADD HL,rr (R242): Z is unchanged, H from bit 11, C from bit 15. -/
def Obligations.AddPairIntoHl : Prop :=
  ∀ (r : Reg16) (s : State),
    EncodedAs (.ofAddHl r) [0b00#2 ++ pairField r ++ 0b1001#4] ∧
    Completes (.ofAddHl r) s (s.pc + 1) 2 fun t =>
      t.hl = s.hl + s.reg16 r ∧
      FlagsAre t s.flagZ false (decide (0x0FFF < s.hl.toNat % 0x1000 + (s.reg16 r).toNat % 0x1000))
        (decide (0xFFFF < s.hl.toNat + (s.reg16 r).toNat)) ∧
      RegsExcept s t [.h, .l] ∧ t.sp = s.sp ∧ MemSame s t

/-- ADD SP,e8 (R243): Z is always cleared, H and C from the low byte. -/
def Obligations.AddDisplacementToStackPointer : Prop :=
  ∀ (e : Byte) (s : State),
    EncodedAs (.addSpE8 e) [0xE8, e] ∧
    Completes (.addSpE8 e) s (s.pc + 2) 4 fun t =>
      t.sp = s.sp + e.signExtend 16 ∧
      FlagsAre t false false (decide (15 < s.sp.toNat % 16 + e.toNat % 16)) (decide (255 < s.sp.toNat % 256 + e.toNat)) ∧
      RegsExcept s t [] ∧ MemSame s t

/-! ## Rotates, shifts and single bits -/

/-- RLCA (R250), RRCA (R251), RLA (R252) and RRA (R253): Z is cleared whatever the result. -/
def Obligations.AccumulatorRotates : Prop :=
  ∀ (s : State) (i : Instr) (op : RotOp) (o : Byte),
    (i, op, o) ∈ [(.rlca, .rlc, 0x07), (.rrca, .rrc, 0x0F), (.rla, .rl, 0x17), (.rra, .rr, 0x1F)] →
    EncodedAs i [o] ∧ Completes i s (s.pc + 1) 1 fun t =>
      t.a = rotated op s.a s.flagC ∧ FlagsAre t false false false (movedOut op s.a) ∧
      RegsExcept s t [.a] ∧ t.sp = s.sp ∧ MemSame s t

/-- The CB rotates, shifts and SWAP on a register and on the byte at HL (R254 to R262): Z from the result. -/
def Obligations.TableRotatesAndShifts : Prop :=
  ∀ (op : RotOp) (s : State),
    (∀ r, EncodedAs (.ofRot op (.reg r)) [0xCB, 0b00#2 ++ rotField op ++ regField r] ∧
      Completes (.ofRot op (.reg r)) s (s.pc + 2) 2 fun t =>
        t.reg8 r = rotated op (s.reg8 r) s.flagC ∧
        FlagsAre t (rotated op (s.reg8 r) s.flagC == 0) false false (movedOut op (s.reg8 r)) ∧
        RegsExcept s t [r] ∧ t.sp = s.sp ∧ MemSame s t) ∧
    (EncodedAs (.ofRot op .atHl) [0xCB, 0b00#2 ++ rotField op ++ 0b110#3] ∧ ModifyFaults (.ofRot op .atHl) s ∧
      ∀ v, Writable s.hl → readByte s s.hl = .ok v → Completes (.ofRot op .atHl) s (s.pc + 2) 4 fun t =>
        StoredAt s t s.hl (rotated op v s.flagC) ∧
        FlagsAre t (rotated op v s.flagC == 0) false false (movedOut op v) ∧ RegsExcept s t [] ∧ t.sp = s.sp)

/-- BIT b,r and BIT b,(HL) (R270): the operand is not written, C is unchanged, ROM does not fault. -/
def Obligations.BitTest : Prop :=
  ∀ (b : Idx8) (s : State),
    (∀ r, EncodedAs (.ofBit b (.reg r)) [0xCB, 0b01#2 ++ idxField b ++ regField r] ∧
      Completes (.ofBit b (.reg r)) s (s.pc + 2) 2 fun t =>
        FlagsAre t (!(s.reg8 r).getLsbD b.toNat) false true s.flagC ∧ RegsExcept s t [] ∧ t.sp = s.sp ∧ MemSame s t) ∧
    (EncodedAs (.ofBit b .atHl) [0xCB, 0b01#2 ++ idxField b ++ 0b110#3] ∧
      (∀ v, readByte s s.hl = .ok v → Completes (.ofBit b .atHl) s (s.pc + 2) 3 fun t =>
        FlagsAre t (!v.getLsbD b.toNat) false true s.flagC ∧ RegsExcept s t [] ∧ t.sp = s.sp ∧ MemSame s t) ∧
      (Unmapped s.hl → FaultsWith (.ofBit b .atHl) s .readUnmapped s.hl))

/-- RES b (R271) and SET b (R272) on a register and on the byte at HL: no flag; the write is always made. -/
def Obligations.BitResetAndSet : Prop :=
  ∀ (set : Bool) (b : Idx8) (s : State),
    (∀ r, EncodedAs (if set then .ofSet b (.reg r) else .ofRes b (.reg r))
        [0xCB, (if set then 0b11#2 else 0b10#2) ++ idxField b ++ regField r] ∧
      Completes (if set then .ofSet b (.reg r) else .ofRes b (.reg r)) s (s.pc + 2) 2 fun t =>
        t.reg8 r = withBit set b (s.reg8 r) ∧ RegsExcept s t [r] ∧ t.f = s.f ∧ t.sp = s.sp ∧ MemSame s t) ∧
    (EncodedAs (if set then .ofSet b .atHl else .ofRes b .atHl)
        [0xCB, (if set then 0b11#2 else 0b10#2) ++ idxField b ++ 0b110#3] ∧
      ModifyFaults (if set then .ofSet b .atHl else .ofRes b .atHl) s ∧
      ∀ v, Writable s.hl → readByte s s.hl = .ok v →
        Completes (if set then .ofSet b .atHl else .ofRes b .atHl) s (s.pc + 2) 4 fun t =>
          StoredAt s t s.hl (withBit set b v) ∧ RegsExcept s t [] ∧ t.f = s.f ∧ t.sp = s.sp)

/-! ## Jumps, calls and returns -/

/-- JR e8 (R281), JP a16 (R283) and JP HL (R285): no target is checked. -/
def Obligations.UnconditionalJumps : Prop :=
  ∀ s : State,
    (∀ e : Byte, EncodedAs (.jrE8 e) [0x18, e] ∧
      Completes (.jrE8 e) s (s.pc + 2 + e.signExtend 16) 3 fun t => OnlyAdvanced s t) ∧
    (∀ nn : Word, EncodedAs (.jpA16 nn) [0xC3, nn.extractLsb' 0 8, nn.extractLsb' 8 8] ∧
      Completes (.jpA16 nn) s nn 4 fun t => OnlyAdvanced s t) ∧
    (EncodedAs .jpHl [0xE9] ∧ Completes .jpHl s s.hl 1 fun t => OnlyAdvanced s t)

/-- JR cc,e8 (R282) and JP cc,a16 (R284), taken and not taken, under both settings of COND_CYCLES (R104, R136, R280). -/
def Obligations.ConditionalJumps : Prop :=
  ∀ (cc : Cond) (holds : Bool) (s : State),
    holds = (match cc with | .nz => !s.flagZ | .z => s.flagZ | .nc => !s.flagC | .c => s.flagC) →
    (∀ e : Byte, EncodedAs (.ofJrCc cc e) [0b001#3 ++ condField cc ++ 0b000#3, e] ∧
      Completes (.ofJrCc cc e) s (if holds then s.pc + 2 + e.signExtend 16 else s.pc + 2)
        (if holds ∨ s.params.condCycles = .perTag then 3 else 2) fun t => OnlyAdvanced s t) ∧
    ∀ nn : Word, EncodedAs (.ofJpCc cc nn) [0b110#3 ++ condField cc ++ 0b010#3, nn.extractLsb' 0 8, nn.extractLsb' 8 8] ∧
      Completes (.ofJpCc cc nn) s (if holds then nn else s.pc + 3)
        (if holds ∨ s.params.condCycles = .perTag then 4 else 3) fun t => OnlyAdvanced s t

/-- CALL a16 (R286) and RST n (R291): the address after the instruction is pushed, high byte first. -/
def Obligations.CallsAndRestarts : Prop :=
  ∀ s : State,
    (∀ nn : Word, EncodedAs (.callA16 nn) [0xCD, nn.extractLsb' 0 8, nn.extractLsb' 8 8] ∧
      CallForm (.callA16 nn) s nn (s.pc + 3) 6) ∧
    ∀ y : Idx8, EncodedAs (.ofRst y) [0b11#2 ++ idxField y ++ 0b111#3] ∧
      CallForm (.ofRst y) s (BitVec.ofNat 16 (y.toNat * 8)) (s.pc + 1) 4

/-- CALL cc,a16 (R287): a call when the condition holds; otherwise nothing is stored and no store can fault. -/
def Obligations.ConditionalCall : Prop :=
  ∀ (cc : Cond) (nn : Word) (s : State),
    EncodedAs (.ofCallCc cc nn) [0b110#3 ++ condField cc ++ 0b100#3, nn.extractLsb' 0 8, nn.extractLsb' 8 8] ∧
    (s.cond cc = true → CallForm (.ofCallCc cc nn) s nn (s.pc + 3) 6) ∧
    (s.cond cc = false → Completes (.ofCallCc cc nn) s (s.pc + 3) (if s.params.condCycles = .perTag then 6 else 3)
      fun t => OnlyAdvanced s t)

/-- RET (R288) and RETI (R290): the target is popped, low byte first; RETI sets IME at once, and an
EI_PENDING that was 1 is promoted at the end of the step. -/
def Obligations.Returns : Prop :=
  ∀ (s : State) (lo hi : Byte),
    EncodedAs .ret [0xC9] ∧ EncodedAs .reti [0xD9] ∧ PopFaults .ret s ∧ PopFaults .reti s ∧
    (readByte s s.sp = .ok lo → readByte s (s.sp + 1) = .ok hi →
      (Completes .ret s (pair hi lo) 4 fun t => t.sp = s.sp + 2 ∧ RegsExcept s t [] ∧ t.f = s.f ∧ MemSame s t) ∧
      ∃ t, exec .reti s = .next t ∧ After s t (pair hi lo) 4 true false s.run ∧ t.ime = true ∧ t.eiPending = false ∧
        t.sp = s.sp + 2 ∧ RegsExcept s t [] ∧ t.f = s.f ∧ MemSame s t)

/-- RET cc (R289): a return when the condition holds, at one cycle more than RET; otherwise nothing is read. -/
def Obligations.ConditionalReturn : Prop :=
  ∀ (cc : Cond) (s : State) (lo hi : Byte),
    EncodedAs (.ofRetCc cc) [0b110#3 ++ condField cc ++ 0b000#3] ∧
    (s.cond cc = true → PopFaults (.ofRetCc cc) s ∧
      (readByte s s.sp = .ok lo → readByte s (s.sp + 1) = .ok hi →
        Completes (.ofRetCc cc) s (pair hi lo) 5 fun t =>
          t.sp = s.sp + 2 ∧ RegsExcept s t [] ∧ t.f = s.f ∧ MemSame s t)) ∧
    (s.cond cc = false → Completes (.ofRetCc cc) s (s.pc + 1) (if s.params.condCycles = .perTag then 5 else 2)
      fun t => OnlyAdvanced s t)

/-! ## Control -/

/-- NOP (R300): PC advances by one and one cycle is charged, nothing else changes. -/
def Obligations.NopOnlyAdvances : Prop :=
  ∀ s : State, EncodedAs .nop [0x00] ∧ Completes .nop s (s.pc + 1) 1 fun t => OnlyAdvanced s t

/-- STOP (R301, decision D8) and HALT (R302, decision D9): one byte, one cycle, the run state STOPPED or HALTED. -/
def Obligations.StopAndHaltEndTheRun : Prop :=
  ∀ s : State,
    (EncodedAs .stop [0x10] ∧ ∃ t, exec .stop s = .next t ∧
      After s t (s.pc + 1) 1 s.ime false .stopped ∧ OnlyAdvanced s t) ∧
    (EncodedAs .halt [0x76] ∧ ∃ t, exec .halt s = .next t ∧
      After s t (s.pc + 1) 1 s.ime false .halted ∧ OnlyAdvanced s t)

/-- DI (R303) clears IME and EI_PENDING; EI (R304, decision D22) sets EI_PENDING and leaves IME, unless the step before was
also EI: then IME is 1 and EI_PENDING 0. -/
def Obligations.InterruptEnableInstructions : Prop :=
  ∀ s : State,
    (EncodedAs .di [0xF3] ∧ ∃ t, exec .di s = .next t ∧
      After s t (s.pc + 1) 1 false false s.run ∧ t.ime = false ∧ t.eiPending = false ∧ OnlyAdvanced s t) ∧
    (EncodedAs .ei [0xFB] ∧ ∃ t, exec .ei s = .next t ∧
      After s t (s.pc + 1) 1 s.ime true s.run ∧ t.ime = (s.ime || s.eiPending) ∧ t.eiPending = (!s.eiPending) ∧
      OnlyAdvanced s t)

/-- The escape (R305): from the state at its byte, executing it is executing the CB-table instruction of the next byte, whose
cost and length include the escape; the fetch of that byte can fault. That CB-table instruction completes wherever its own
statement says so; the last clause says so of one, as a witness that the escape completes. -/
def Obligations.EscapeRunsTheTableInstruction : Prop :=
  ∀ s : State,
    (∀ op2, readByte s (s.pc + 1) = .ok op2 → exec .prefixCb s = exec (decodeCb s.params.decodeSet op2) s) ∧
    (Unmapped (s.pc + 1) → FaultsWith .prefixCb s .readUnmapped (s.pc + 1)) ∧
    (∀ (op2 : Byte) (b : Idx8) (r : Reg8), s.params.decodeSet = .full →
      op2 = 0b10#2 ++ idxField b ++ regField r → readByte s (s.pc + 1) = .ok op2 →
      Completes .prefixCb s (s.pc + 2) 2 fun t =>
        t.reg8 r = withBit false b (s.reg8 r) ∧ RegsExcept s t [r] ∧ t.f = s.f ∧ t.sp = s.sp ∧ MemSame s t)

/-- Invalid (R306, decisions D2 and D3): under INVALID_POLICY = FAULT it is the fault DECODE_GAP with its code; under NOP PC
moves past the byte, or the two bytes of a CB-table code, and INVALID_CYCLES are charged. -/
def Obligations.InvalidFollowsItsPolicy : Prop :=
  ∀ (code : Word) (s : State),
    (s.params.invalidPolicy = .fault → FaultsWith (.invalid code) s .decodeGap code) ∧
    (s.params.invalidPolicy = .nop →
      Completes (.invalid code) s (if 0xCB00 ≤ code.toNat ∧ code.toNat ≤ 0xCBFF then s.pc + 2 else s.pc + 1)
        s.params.invalidCycles fun t => OnlyAdvanced s t)

/-! ## The whole machine -/

/-- Every step keeps the invariant: memory in canonical form and only where there is storage, F bits 3:0 zero, the fault
record there exactly in FAULTED (R22, R23, R30). -/
def Obligations.StepKeepsInvariant : Prop :=
  ∀ s t : State, s.Inv → step s = .next t → t.Inv

/-- The reset state meets the invariant, and so does every state construction gives. -/
def Obligations.ConstructionMeetsInvariant : Prop :=
  State.reset.Inv ∧ ∀ (p : Params) (image : List Byte) (s : State), construct p image = .next s → s.Inv

/-- The table of R38 at its defaults (decisions D4, D5, D6, D13, D16 and D22 of the spec; log entry 6 for the empty image). -/
def Obligations.ResetHoldsTheTabledValues : Prop :=
  State.reset.a = 0x11 ∧ FlagsAre State.reset true false false false ∧ State.reset.f = 0x80 ∧ State.reset.b = 0x00 ∧
  State.reset.c = 0x00 ∧ State.reset.d = 0xFF ∧ State.reset.e = 0x56 ∧ State.reset.h = 0x00 ∧ State.reset.l = 0x0D ∧
  State.reset.sp = 0xFFFE ∧ State.reset.pc = 0x0100 ∧ State.reset.ime = false ∧ State.reset.eiPending = false ∧
  State.reset.run = .running ∧ State.reset.fault = none ∧ State.reset.cycles = 0 ∧
  ∀ a, Readable a → readByte State.reset a = .ok 0

/-- Construction (R351, decision D24; R38): an image of at most 32768 bytes gives a RUNNING state with ROM holding it,
zero-padded, REG_INIT in the registers and every other readable byte 0x00; a longer image is ConfigError. -/
def Obligations.ConstructionLoadsTheImage : Prop :=
  ∀ (p : Params) (image : List Byte),
    (image.length ≤ 32768 → ∃ s, construct p image = .next s ∧ RomHolds image s ∧
      (∀ a : Word, 0x8000 ≤ a.toNat → Readable a → readByte s a = .ok 0) ∧
      s.a = p.regInit.a ∧ s.f = p.regInit.f &&& 0xF0 ∧ s.b = p.regInit.b ∧ s.c = p.regInit.c ∧ s.d = p.regInit.d ∧
      s.e = p.regInit.e ∧ s.h = p.regInit.h ∧ s.l = p.regInit.l ∧ s.sp = p.regInit.sp ∧ s.pc = 0x0100 ∧
      s.ime = false ∧ s.eiPending = false ∧ s.run = .running ∧ s.fault = none ∧ s.cycles = 0 ∧ s.params = p) ∧
    (32768 < image.length → construct p image = .fault .configError)

/-- A fault is precise (R137, decision D16): taking one changes the run state and the record only, the record naming the first
byte of the instruction; the state after a step that faulted is the state before it with a fault taken; and every step answers
a next state. -/
def Obligations.FaultsArePrecise : Prop :=
  ∀ s : State,
    (∀ e, s.takeFault e = { s with run := .faulted, fault := some ⟨e.kind, e.value, s.pc⟩ }) ∧
    (∃ t, step s = .next t) ∧
    ∀ t, s.run = .running → step s = .next t → t.run = .faulted → ∃ e, t = s.takeFault e

/-- STOPPED, HALTED and FAULTED are final (R138, R139, decision D10): a step changes nothing and reports 0 cycles and
NOT_RUNNING, and a run of any length ends where it is. -/
def Obligations.EndedRunsStayEnded : Prop :=
  ∀ s : State, s.run ≠ .running →
    step s = .next s ∧ stepReport s = ⟨0, .notRunning⟩ ∧ ∀ k, runFuel k s = s

/-- An instruction that completes is charged the cost of the grids of R357, a conditional transfer by COND_CYCLES (R135,
R136); one that faults is charged nothing (R137). -/
def Obligations.ChargesFollowTheCycleGrids : Prop :=
  ∀ (i : Instr) (s t : State), i ≠ .prefixCb → s.run = .running → exec i s = .next t →
    (t.run ≠ .faulted → t.cycles = s.cycles + chargeOf s i) ∧ (t.run = .faulted → t.cycles = s.cycles)

/-- IME and EI_PENDING change as R28 and R141 say (decision D22): an instruction that completes promotes a pending EI, and
only DI, EI and RETI do anything else to them. RETI (R290) sets IME, and a pending EI is promoted at its end as well. -/
def Obligations.OnlyDiEiRetiTouchInterruptEnable : Prop :=
  ∀ (i : Instr) (s t : State), s.run = .running → exec i s = .next t → t.run ≠ .faulted →
    (i ≠ .di → i ≠ .ei → i ≠ .reti → t.ime = (s.ime || s.eiPending) ∧ t.eiPending = false) ∧
    (i = .reti → t.ime = true ∧ t.eiPending = false)

/-- SP is changed by no instruction but those R25 lists as its writers. -/
def Obligations.OnlyListedInstructionsWriteSp : Prop :=
  ∀ (i : Instr) (s t : State), writesSp i = false → exec i s = .next t → t.sp = s.sp

/-- F is changed by no instruction but those in the table of R32, and by no faulting instruction (R33). -/
def Obligations.OnlyListedInstructionsWriteFlags : Prop :=
  ∀ (i : Instr) (s t : State), i ≠ .prefixCb → exec i s = .next t →
    (writesFlags i = false → t.f = s.f) ∧ (s.run = .running → t.run = .faulted → t.f = s.f)

/-- What the host may do between steps (R82, decision D15): a write to a backed I/O byte changes that byte and nothing else,
and every other write is not the host's to make. -/
def Obligations.HostWritesOnlyBackedIo : Prop :=
  ∀ (s : State) (a : Word) (v : Byte),
    (InIo a → ioBacked s.params a = true → ∃ t, hostWriteIo s a v = some t ∧ StoredAt s t a v ∧
      { t with mem := s.mem } = s ∧ hostReadIo t a = some v) ∧
    (¬(InIo a ∧ ioBacked s.params a = true) → hostWriteIo s a v = none ∧ hostReadIo s a = none)

/-- However the host interleaves its writes with the steps, the invariant holds and ROM holds the image (R64, R76, R82). -/
def Obligations.SessionsKeepInvariantAndRom : Prop :=
  ∀ (image : List Byte) (s t : State) (events : List Event), s.Inv → RomHolds image s → runSession s events = some t →
    t.Inv ∧ RomHolds image t

/-- What step() reports from a RUNNING state (R140, decision D27): the cycles charged, and the outcome that belongs to the
run state it leaves; a decode gap is told from a NOP. -/
def Obligations.StepReportsItsOutcome : Prop :=
  ∀ s : State, s.run = .running →
    (∀ e, fetchInstr s = .error e → stepReport s = ⟨0, .fault e.kind⟩) ∧
    ∀ (i : Instr) (t : State), fetchInstr s = .ok i → exec i s = .next t →
      (stepReport s).cost = t.cycles - s.cycles ∧
      (t.run = .stopped → (stepReport s).outcome = .stopped) ∧
      (t.run = .halted → (stepReport s).outcome = .halted) ∧
      (t.run = .faulted → ∃ kind value, t.fault = some ⟨kind, value, s.pc⟩ ∧ (stepReport s).outcome = .fault kind) ∧
      (t.run = .running → (∀ code, i = .invalid code → (stepReport s).outcome = .decodeGap code) ∧
        ((∀ code, i ≠ .invalid code) → (stepReport s).outcome = .executed))
end

