-- ==== Sys2Proof/Laws/Memory.lean ====
section
/-! SUPPORT. The laws of region storage: reading after writing, and the canonical form that every write keeps. -/

namespace Sys2Proof.Machine

theorem Memory.read_insert (m : Memory) (a b : Nat) (v : Byte) :
    (m.insert a v).read b = if b = a then v else m.read b := by
  induction m with
  | nil => simp [Memory.insert, Memory.read]
  | cons cell rest ih =>
    obtain ⟨c, w⟩ := cell
    unfold Memory.insert
    split
    · simp [Memory.read]
    · split
      · subst c
        by_cases h : b = a <;> simp [Memory.read, h]
      · by_cases h : b = c
        · subst h
          have : b ≠ a := by omega
          simp [Memory.read, this]
        · simp [Memory.read, h, ih]

theorem Memory.read_erase (m : Memory) (a b : Nat) : (m.erase a).read b = if b = a then 0 else m.read b := by
  induction m with
  | nil => simp [Memory.erase, Memory.read]
  | cons cell rest ih =>
    obtain ⟨c, w⟩ := cell
    unfold Memory.erase
    split
    · subst c
      by_cases h : b = a
      · subst h; simp [ih]
      · simp [ih, Memory.read, h]
    · by_cases h : b = c
      · subst h
        have : b ≠ a := by omega
        simp [Memory.read, this]
      · simp [Memory.read, h, ih]

/-- Reading after a write: the byte written at its address, every other byte as before. -/
theorem Memory.read_write (m : Memory) (a b : Nat) (v : Byte) :
    (m.write a v).read b = if b = a then v else m.read b := by
  unfold Memory.write
  split
  · next h => subst h; exact Memory.read_erase m a b
  · exact Memory.read_insert m a b v

/-- The canonical form, said by lower bounds: every address is at least lo, addresses rise, no byte is 0x00. -/
def Memory.wfFrom : Nat → Memory → Prop
  | _, [] => True
  | lo, (a, v) :: rest => lo ≤ a ∧ v ≠ 0 ∧ Memory.wfFrom (a + 1) rest

theorem Memory.wf_iff_wfFrom_head (a : Nat) (v : Byte) (rest : Memory) :
    Memory.wf ((a, v) :: rest) = true ↔ v ≠ 0 ∧ Memory.wfFrom (a + 1) rest := by
  induction rest generalizing a v with
  | nil => simp [Memory.wf, Memory.wfFrom]
  | cons cell rest ih =>
    obtain ⟨b, w⟩ := cell
    have := ih b w
    simp only [Memory.wf, Bool.and_eq_true, this, Memory.wfFrom, bne_iff_ne, decide_eq_true_eq]
    constructor
    · rintro ⟨⟨h1, h2⟩, h3, h4⟩
      exact ⟨h1, by omega, h3, h4⟩
    · rintro ⟨h1, h2, h3, h4⟩
      exact ⟨⟨h1, by omega⟩, h3, h4⟩

theorem Memory.wf_iff (m : Memory) : m.wf = true ↔ Memory.wfFrom 0 m := by
  cases m with
  | nil => simp [Memory.wf, Memory.wfFrom]
  | cons cell rest =>
    obtain ⟨a, v⟩ := cell
    simp [Memory.wf_iff_wfFrom_head, Memory.wfFrom]

theorem Memory.wfFrom_mono {lo lo' : Nat} {m : Memory} (h : Memory.wfFrom lo m) (hl : lo' ≤ lo) :
    Memory.wfFrom lo' m := by
  cases m with
  | nil => trivial
  | cons cell rest => exact ⟨by have := h.1; omega, h.2⟩

theorem Memory.wfFrom_insert {lo : Nat} {m : Memory} (h : Memory.wfFrom lo m) (a : Nat) (v : Byte) (hv : v ≠ 0)
    (hlo : lo ≤ a) : Memory.wfFrom lo (m.insert a v) := by
  induction m generalizing lo with
  | nil => exact ⟨hlo, hv, trivial⟩
  | cons cell rest ih =>
    obtain ⟨b, w⟩ := cell
    obtain ⟨h1, h2, h3⟩ := h
    unfold Memory.insert
    split
    · exact ⟨hlo, hv, by omega, h2, h3⟩
    · split
      · next h => subst h; exact ⟨h1, hv, h3⟩
      · exact ⟨h1, h2, ih h3 (by omega)⟩

theorem Memory.wfFrom_erase {lo : Nat} {m : Memory} (h : Memory.wfFrom lo m) (a : Nat) :
    Memory.wfFrom lo (m.erase a) := by
  induction m generalizing lo with
  | nil => trivial
  | cons cell rest ih =>
    obtain ⟨b, w⟩ := cell
    obtain ⟨h1, h2, h3⟩ := h
    unfold Memory.erase
    split
    · exact Memory.wfFrom_mono (ih h3) (by omega)
    · exact ⟨h1, h2, ih h3⟩

/-- A write keeps the canonical form. -/
theorem Memory.wf_write {m : Memory} (h : m.wf = true) (a : Nat) (v : Byte) : (m.write a v).wf = true := by
  rw [Memory.wf_iff] at *
  unfold Memory.write
  split
  · exact Memory.wfFrom_erase h a
  · next hv => exact Memory.wfFrom_insert h a v hv (Nat.zero_le a)

theorem Memory.mem_insert {m : Memory} {a : Nat} {v : Byte} {cell : Host.Cell} (h : cell ∈ m.insert a v) :
    cell ∈ m ∨ cell.1 = a := by
  induction m with
  | nil => simp_all [Memory.insert]
  | cons c rest ih =>
    obtain ⟨b, w⟩ := c
    unfold Memory.insert at h
    split at h
    · rcases List.mem_cons.1 h with rfl | h
      · exact .inr rfl
      · exact .inl h
    · split at h
      · rcases List.mem_cons.1 h with rfl | h
        · exact .inr rfl
        · exact .inl (List.mem_cons_of_mem _ h)
      · rcases List.mem_cons.1 h with rfl | h
        · exact .inl List.mem_cons_self
        · rcases ih h with h | h
          · exact .inl (List.mem_cons_of_mem _ h)
          · exact .inr h

theorem Memory.mem_erase {m : Memory} {a : Nat} {cell : Host.Cell} (h : cell ∈ m.erase a) : cell ∈ m := by
  induction m with
  | nil => exact h
  | cons c rest ih =>
    obtain ⟨b, w⟩ := c
    unfold Memory.erase at h
    split at h
    · exact List.mem_cons_of_mem _ (ih h)
    · rcases List.mem_cons.1 h with rfl | h
      · exact List.mem_cons_self
      · exact List.mem_cons_of_mem _ (ih h)

/-- A write lists no address but those listed before and its own. -/
theorem Memory.mem_write {m : Memory} {a : Nat} {v : Byte} {cell : Host.Cell} (h : cell ∈ m.write a v) :
    cell ∈ m ∨ cell.1 = a := by
  unfold Memory.write at h
  split at h
  · exact .inl (Memory.mem_erase h)
  · exact Memory.mem_insert h

/-! ### The program image -/

theorem wfFrom_imageCells (a : Nat) (image : List Byte) : Memory.wfFrom a (imageCells a image) := by
  induction image generalizing a with
  | nil => trivial
  | cons v rest ih =>
    unfold imageCells
    split
    · exact Memory.wfFrom_mono (ih (a + 1)) (by omega)
    · next h => exact ⟨Nat.le_refl a, h, ih (a + 1)⟩

/-- Construction's memory has the canonical form. -/
theorem wf_imageCells (image : List Byte) : (imageCells 0 image).wf = true :=
  (Memory.wf_iff _).2 (wfFrom_imageCells 0 image)

/-- Construction's memory holds the image and nothing else (R351). -/
theorem read_imageCells (a : Nat) (image : List Byte) (b : Nat) :
    (imageCells a image).read b = if a ≤ b then image.getD (b - a) 0 else 0 := by
  induction image generalizing a with
  | nil => simp [imageCells, Memory.read]
  | cons v rest ih =>
    by_cases hb : b = a
    · subst hb
      unfold imageCells
      split
      · next h => simp [ih, h]
      · simp [Memory.read]
    · have key : (imageCells (a + 1) rest).read b = if a ≤ b then (v :: rest).getD (b - a) 0 else 0 := by
        rw [ih]
        by_cases h : a + 1 ≤ b
        · have h2 : a ≤ b := by omega
          have h3 : b - a = (b - (a + 1)) + 1 := by omega
          simp [h, h2, h3]
        · have h2 : ¬ a ≤ b := by omega
          simp [h, h2]
      unfold imageCells
      split
      · exact key
      · simp [Memory.read, hb, key]

end Sys2Proof.Machine
end

