-- ==== Sys2Proof/Laws/State.lean ====
section
/-! SUPPORT. One lemma per field per update of the state, each true by unfolding the update once, and the reads of
registers, pairs and flags after each update. -/

namespace Sys2Proof.Machine

/-! ### setSp -/

@[simp] theorem State.setSp_a (s : State) (v : Word) : (s.setSp v).a = s.a := rfl
@[simp] theorem State.setSp_f (s : State) (v : Word) : (s.setSp v).f = s.f := rfl
@[simp] theorem State.setSp_b (s : State) (v : Word) : (s.setSp v).b = s.b := rfl
@[simp] theorem State.setSp_c (s : State) (v : Word) : (s.setSp v).c = s.c := rfl
@[simp] theorem State.setSp_d (s : State) (v : Word) : (s.setSp v).d = s.d := rfl
@[simp] theorem State.setSp_e (s : State) (v : Word) : (s.setSp v).e = s.e := rfl
@[simp] theorem State.setSp_h (s : State) (v : Word) : (s.setSp v).h = s.h := rfl
@[simp] theorem State.setSp_l (s : State) (v : Word) : (s.setSp v).l = s.l := rfl
@[simp] theorem State.setSp_sp (s : State) (v : Word) : (s.setSp v).sp = v := rfl
@[simp] theorem State.setSp_pc (s : State) (v : Word) : (s.setSp v).pc = s.pc := rfl
@[simp] theorem State.setSp_ime (s : State) (v : Word) : (s.setSp v).ime = s.ime := rfl
@[simp] theorem State.setSp_eiPending (s : State) (v : Word) : (s.setSp v).eiPending = s.eiPending := rfl
@[simp] theorem State.setSp_run (s : State) (v : Word) : (s.setSp v).run = s.run := rfl
@[simp] theorem State.setSp_fault (s : State) (v : Word) : (s.setSp v).fault = s.fault := rfl
@[simp] theorem State.setSp_cycles (s : State) (v : Word) : (s.setSp v).cycles = s.cycles := rfl
@[simp] theorem State.setSp_mem (s : State) (v : Word) : (s.setSp v).mem = s.mem := rfl
@[simp] theorem State.setSp_params (s : State) (v : Word) : (s.setSp v).params = s.params := rfl
@[simp] theorem State.setSp_reg8 (s : State) (v : Word) (q : Reg8) : (s.setSp v).reg8 q = s.reg8 q := by cases q <;> rfl
@[simp] theorem State.setSp_flagZ (s : State) (v : Word) : (s.setSp v).flagZ = s.flagZ := rfl
@[simp] theorem State.setSp_flagN (s : State) (v : Word) : (s.setSp v).flagN = s.flagN := rfl
@[simp] theorem State.setSp_flagH (s : State) (v : Word) : (s.setSp v).flagH = s.flagH := rfl
@[simp] theorem State.setSp_flagC (s : State) (v : Word) : (s.setSp v).flagC = s.flagC := rfl
@[simp] theorem State.setSp_flagByte (s : State) (v : Word) : (s.setSp v).flagByte = s.flagByte := rfl
@[simp] theorem State.setSp_cond (s : State) (v : Word) (cc : Cond) : (s.setSp v).cond cc = s.cond cc := by cases cc <;> rfl
@[simp] theorem State.setSp_hl (s : State) (v : Word) : (s.setSp v).hl = s.hl := rfl
@[simp] theorem State.setSp_stackReg (s : State) (v : Word) (q : StackReg) : (s.setSp v).stackReg q = s.stackReg q := by cases q <;> rfl

/-! ### setPc -/

@[simp] theorem State.setPc_a (s : State) (v : Word) : (s.setPc v).a = s.a := rfl
@[simp] theorem State.setPc_f (s : State) (v : Word) : (s.setPc v).f = s.f := rfl
@[simp] theorem State.setPc_b (s : State) (v : Word) : (s.setPc v).b = s.b := rfl
@[simp] theorem State.setPc_c (s : State) (v : Word) : (s.setPc v).c = s.c := rfl
@[simp] theorem State.setPc_d (s : State) (v : Word) : (s.setPc v).d = s.d := rfl
@[simp] theorem State.setPc_e (s : State) (v : Word) : (s.setPc v).e = s.e := rfl
@[simp] theorem State.setPc_h (s : State) (v : Word) : (s.setPc v).h = s.h := rfl
@[simp] theorem State.setPc_l (s : State) (v : Word) : (s.setPc v).l = s.l := rfl
@[simp] theorem State.setPc_sp (s : State) (v : Word) : (s.setPc v).sp = s.sp := rfl
@[simp] theorem State.setPc_pc (s : State) (v : Word) : (s.setPc v).pc = v := rfl
@[simp] theorem State.setPc_ime (s : State) (v : Word) : (s.setPc v).ime = s.ime := rfl
@[simp] theorem State.setPc_eiPending (s : State) (v : Word) : (s.setPc v).eiPending = s.eiPending := rfl
@[simp] theorem State.setPc_run (s : State) (v : Word) : (s.setPc v).run = s.run := rfl
@[simp] theorem State.setPc_fault (s : State) (v : Word) : (s.setPc v).fault = s.fault := rfl
@[simp] theorem State.setPc_cycles (s : State) (v : Word) : (s.setPc v).cycles = s.cycles := rfl
@[simp] theorem State.setPc_mem (s : State) (v : Word) : (s.setPc v).mem = s.mem := rfl
@[simp] theorem State.setPc_params (s : State) (v : Word) : (s.setPc v).params = s.params := rfl
@[simp] theorem State.setPc_reg8 (s : State) (v : Word) (q : Reg8) : (s.setPc v).reg8 q = s.reg8 q := by cases q <;> rfl
@[simp] theorem State.setPc_flagZ (s : State) (v : Word) : (s.setPc v).flagZ = s.flagZ := rfl
@[simp] theorem State.setPc_flagN (s : State) (v : Word) : (s.setPc v).flagN = s.flagN := rfl
@[simp] theorem State.setPc_flagH (s : State) (v : Word) : (s.setPc v).flagH = s.flagH := rfl
@[simp] theorem State.setPc_flagC (s : State) (v : Word) : (s.setPc v).flagC = s.flagC := rfl
@[simp] theorem State.setPc_flagByte (s : State) (v : Word) : (s.setPc v).flagByte = s.flagByte := rfl
@[simp] theorem State.setPc_cond (s : State) (v : Word) (cc : Cond) : (s.setPc v).cond cc = s.cond cc := by cases cc <;> rfl
@[simp] theorem State.setPc_reg16 (s : State) (v : Word) (q : Reg16) : (s.setPc v).reg16 q = s.reg16 q := by cases q <;> rfl
@[simp] theorem State.setPc_hl (s : State) (v : Word) : (s.setPc v).hl = s.hl := rfl
@[simp] theorem State.setPc_stackReg (s : State) (v : Word) (q : StackReg) : (s.setPc v).stackReg q = s.stackReg q := by cases q <;> rfl

/-! ### setIme -/

@[simp] theorem State.setIme_a (s : State) (v : Bool) : (s.setIme v).a = s.a := rfl
@[simp] theorem State.setIme_f (s : State) (v : Bool) : (s.setIme v).f = s.f := rfl
@[simp] theorem State.setIme_b (s : State) (v : Bool) : (s.setIme v).b = s.b := rfl
@[simp] theorem State.setIme_c (s : State) (v : Bool) : (s.setIme v).c = s.c := rfl
@[simp] theorem State.setIme_d (s : State) (v : Bool) : (s.setIme v).d = s.d := rfl
@[simp] theorem State.setIme_e (s : State) (v : Bool) : (s.setIme v).e = s.e := rfl
@[simp] theorem State.setIme_h (s : State) (v : Bool) : (s.setIme v).h = s.h := rfl
@[simp] theorem State.setIme_l (s : State) (v : Bool) : (s.setIme v).l = s.l := rfl
@[simp] theorem State.setIme_sp (s : State) (v : Bool) : (s.setIme v).sp = s.sp := rfl
@[simp] theorem State.setIme_pc (s : State) (v : Bool) : (s.setIme v).pc = s.pc := rfl
@[simp] theorem State.setIme_ime (s : State) (v : Bool) : (s.setIme v).ime = v := rfl
@[simp] theorem State.setIme_eiPending (s : State) (v : Bool) : (s.setIme v).eiPending = s.eiPending := rfl
@[simp] theorem State.setIme_run (s : State) (v : Bool) : (s.setIme v).run = s.run := rfl
@[simp] theorem State.setIme_fault (s : State) (v : Bool) : (s.setIme v).fault = s.fault := rfl
@[simp] theorem State.setIme_cycles (s : State) (v : Bool) : (s.setIme v).cycles = s.cycles := rfl
@[simp] theorem State.setIme_mem (s : State) (v : Bool) : (s.setIme v).mem = s.mem := rfl
@[simp] theorem State.setIme_params (s : State) (v : Bool) : (s.setIme v).params = s.params := rfl
@[simp] theorem State.setIme_reg8 (s : State) (v : Bool) (q : Reg8) : (s.setIme v).reg8 q = s.reg8 q := by cases q <;> rfl
@[simp] theorem State.setIme_flagZ (s : State) (v : Bool) : (s.setIme v).flagZ = s.flagZ := rfl
@[simp] theorem State.setIme_flagN (s : State) (v : Bool) : (s.setIme v).flagN = s.flagN := rfl
@[simp] theorem State.setIme_flagH (s : State) (v : Bool) : (s.setIme v).flagH = s.flagH := rfl
@[simp] theorem State.setIme_flagC (s : State) (v : Bool) : (s.setIme v).flagC = s.flagC := rfl
@[simp] theorem State.setIme_flagByte (s : State) (v : Bool) : (s.setIme v).flagByte = s.flagByte := rfl
@[simp] theorem State.setIme_cond (s : State) (v : Bool) (cc : Cond) : (s.setIme v).cond cc = s.cond cc := by cases cc <;> rfl
@[simp] theorem State.setIme_reg16 (s : State) (v : Bool) (q : Reg16) : (s.setIme v).reg16 q = s.reg16 q := by cases q <;> rfl
@[simp] theorem State.setIme_hl (s : State) (v : Bool) : (s.setIme v).hl = s.hl := rfl
@[simp] theorem State.setIme_stackReg (s : State) (v : Bool) (q : StackReg) : (s.setIme v).stackReg q = s.stackReg q := by cases q <;> rfl

/-! ### setEiPending -/

@[simp] theorem State.setEiPending_a (s : State) (v : Bool) : (s.setEiPending v).a = s.a := rfl
@[simp] theorem State.setEiPending_f (s : State) (v : Bool) : (s.setEiPending v).f = s.f := rfl
@[simp] theorem State.setEiPending_b (s : State) (v : Bool) : (s.setEiPending v).b = s.b := rfl
@[simp] theorem State.setEiPending_c (s : State) (v : Bool) : (s.setEiPending v).c = s.c := rfl
@[simp] theorem State.setEiPending_d (s : State) (v : Bool) : (s.setEiPending v).d = s.d := rfl
@[simp] theorem State.setEiPending_e (s : State) (v : Bool) : (s.setEiPending v).e = s.e := rfl
@[simp] theorem State.setEiPending_h (s : State) (v : Bool) : (s.setEiPending v).h = s.h := rfl
@[simp] theorem State.setEiPending_l (s : State) (v : Bool) : (s.setEiPending v).l = s.l := rfl
@[simp] theorem State.setEiPending_sp (s : State) (v : Bool) : (s.setEiPending v).sp = s.sp := rfl
@[simp] theorem State.setEiPending_pc (s : State) (v : Bool) : (s.setEiPending v).pc = s.pc := rfl
@[simp] theorem State.setEiPending_ime (s : State) (v : Bool) : (s.setEiPending v).ime = s.ime := rfl
@[simp] theorem State.setEiPending_eiPending (s : State) (v : Bool) : (s.setEiPending v).eiPending = v := rfl
@[simp] theorem State.setEiPending_run (s : State) (v : Bool) : (s.setEiPending v).run = s.run := rfl
@[simp] theorem State.setEiPending_fault (s : State) (v : Bool) : (s.setEiPending v).fault = s.fault := rfl
@[simp] theorem State.setEiPending_cycles (s : State) (v : Bool) : (s.setEiPending v).cycles = s.cycles := rfl
@[simp] theorem State.setEiPending_mem (s : State) (v : Bool) : (s.setEiPending v).mem = s.mem := rfl
@[simp] theorem State.setEiPending_params (s : State) (v : Bool) : (s.setEiPending v).params = s.params := rfl
@[simp] theorem State.setEiPending_reg8 (s : State) (v : Bool) (q : Reg8) : (s.setEiPending v).reg8 q = s.reg8 q := by cases q <;> rfl
@[simp] theorem State.setEiPending_flagZ (s : State) (v : Bool) : (s.setEiPending v).flagZ = s.flagZ := rfl
@[simp] theorem State.setEiPending_flagN (s : State) (v : Bool) : (s.setEiPending v).flagN = s.flagN := rfl
@[simp] theorem State.setEiPending_flagH (s : State) (v : Bool) : (s.setEiPending v).flagH = s.flagH := rfl
@[simp] theorem State.setEiPending_flagC (s : State) (v : Bool) : (s.setEiPending v).flagC = s.flagC := rfl
@[simp] theorem State.setEiPending_flagByte (s : State) (v : Bool) : (s.setEiPending v).flagByte = s.flagByte := rfl
@[simp] theorem State.setEiPending_cond (s : State) (v : Bool) (cc : Cond) : (s.setEiPending v).cond cc = s.cond cc := by cases cc <;> rfl
@[simp] theorem State.setEiPending_reg16 (s : State) (v : Bool) (q : Reg16) : (s.setEiPending v).reg16 q = s.reg16 q := by cases q <;> rfl
@[simp] theorem State.setEiPending_hl (s : State) (v : Bool) : (s.setEiPending v).hl = s.hl := rfl
@[simp] theorem State.setEiPending_stackReg (s : State) (v : Bool) (q : StackReg) : (s.setEiPending v).stackReg q = s.stackReg q := by cases q <;> rfl

/-! ### setRun -/

@[simp] theorem State.setRun_a (s : State) (v : RunState) : (s.setRun v).a = s.a := rfl
@[simp] theorem State.setRun_f (s : State) (v : RunState) : (s.setRun v).f = s.f := rfl
@[simp] theorem State.setRun_b (s : State) (v : RunState) : (s.setRun v).b = s.b := rfl
@[simp] theorem State.setRun_c (s : State) (v : RunState) : (s.setRun v).c = s.c := rfl
@[simp] theorem State.setRun_d (s : State) (v : RunState) : (s.setRun v).d = s.d := rfl
@[simp] theorem State.setRun_e (s : State) (v : RunState) : (s.setRun v).e = s.e := rfl
@[simp] theorem State.setRun_h (s : State) (v : RunState) : (s.setRun v).h = s.h := rfl
@[simp] theorem State.setRun_l (s : State) (v : RunState) : (s.setRun v).l = s.l := rfl
@[simp] theorem State.setRun_sp (s : State) (v : RunState) : (s.setRun v).sp = s.sp := rfl
@[simp] theorem State.setRun_pc (s : State) (v : RunState) : (s.setRun v).pc = s.pc := rfl
@[simp] theorem State.setRun_ime (s : State) (v : RunState) : (s.setRun v).ime = s.ime := rfl
@[simp] theorem State.setRun_eiPending (s : State) (v : RunState) : (s.setRun v).eiPending = s.eiPending := rfl
@[simp] theorem State.setRun_run (s : State) (v : RunState) : (s.setRun v).run = v := rfl
@[simp] theorem State.setRun_fault (s : State) (v : RunState) : (s.setRun v).fault = s.fault := rfl
@[simp] theorem State.setRun_cycles (s : State) (v : RunState) : (s.setRun v).cycles = s.cycles := rfl
@[simp] theorem State.setRun_mem (s : State) (v : RunState) : (s.setRun v).mem = s.mem := rfl
@[simp] theorem State.setRun_params (s : State) (v : RunState) : (s.setRun v).params = s.params := rfl
@[simp] theorem State.setRun_reg8 (s : State) (v : RunState) (q : Reg8) : (s.setRun v).reg8 q = s.reg8 q := by cases q <;> rfl
@[simp] theorem State.setRun_flagZ (s : State) (v : RunState) : (s.setRun v).flagZ = s.flagZ := rfl
@[simp] theorem State.setRun_flagN (s : State) (v : RunState) : (s.setRun v).flagN = s.flagN := rfl
@[simp] theorem State.setRun_flagH (s : State) (v : RunState) : (s.setRun v).flagH = s.flagH := rfl
@[simp] theorem State.setRun_flagC (s : State) (v : RunState) : (s.setRun v).flagC = s.flagC := rfl
@[simp] theorem State.setRun_flagByte (s : State) (v : RunState) : (s.setRun v).flagByte = s.flagByte := rfl
@[simp] theorem State.setRun_cond (s : State) (v : RunState) (cc : Cond) : (s.setRun v).cond cc = s.cond cc := by cases cc <;> rfl
@[simp] theorem State.setRun_reg16 (s : State) (v : RunState) (q : Reg16) : (s.setRun v).reg16 q = s.reg16 q := by cases q <;> rfl
@[simp] theorem State.setRun_hl (s : State) (v : RunState) : (s.setRun v).hl = s.hl := rfl
@[simp] theorem State.setRun_stackReg (s : State) (v : RunState) (q : StackReg) : (s.setRun v).stackReg q = s.stackReg q := by cases q <;> rfl

/-! ### charge -/

@[simp] theorem State.charge_a (s : State) (n : Nat) : (s.charge n).a = s.a := rfl
@[simp] theorem State.charge_f (s : State) (n : Nat) : (s.charge n).f = s.f := rfl
@[simp] theorem State.charge_b (s : State) (n : Nat) : (s.charge n).b = s.b := rfl
@[simp] theorem State.charge_c (s : State) (n : Nat) : (s.charge n).c = s.c := rfl
@[simp] theorem State.charge_d (s : State) (n : Nat) : (s.charge n).d = s.d := rfl
@[simp] theorem State.charge_e (s : State) (n : Nat) : (s.charge n).e = s.e := rfl
@[simp] theorem State.charge_h (s : State) (n : Nat) : (s.charge n).h = s.h := rfl
@[simp] theorem State.charge_l (s : State) (n : Nat) : (s.charge n).l = s.l := rfl
@[simp] theorem State.charge_sp (s : State) (n : Nat) : (s.charge n).sp = s.sp := rfl
@[simp] theorem State.charge_pc (s : State) (n : Nat) : (s.charge n).pc = s.pc := rfl
@[simp] theorem State.charge_ime (s : State) (n : Nat) : (s.charge n).ime = s.ime := rfl
@[simp] theorem State.charge_eiPending (s : State) (n : Nat) : (s.charge n).eiPending = s.eiPending := rfl
@[simp] theorem State.charge_run (s : State) (n : Nat) : (s.charge n).run = s.run := rfl
@[simp] theorem State.charge_fault (s : State) (n : Nat) : (s.charge n).fault = s.fault := rfl
@[simp] theorem State.charge_cycles (s : State) (n : Nat) : (s.charge n).cycles = s.cycles + n := rfl
@[simp] theorem State.charge_mem (s : State) (n : Nat) : (s.charge n).mem = s.mem := rfl
@[simp] theorem State.charge_params (s : State) (n : Nat) : (s.charge n).params = s.params := rfl
@[simp] theorem State.charge_reg8 (s : State) (n : Nat) (q : Reg8) : (s.charge n).reg8 q = s.reg8 q := by cases q <;> rfl
@[simp] theorem State.charge_flagZ (s : State) (n : Nat) : (s.charge n).flagZ = s.flagZ := rfl
@[simp] theorem State.charge_flagN (s : State) (n : Nat) : (s.charge n).flagN = s.flagN := rfl
@[simp] theorem State.charge_flagH (s : State) (n : Nat) : (s.charge n).flagH = s.flagH := rfl
@[simp] theorem State.charge_flagC (s : State) (n : Nat) : (s.charge n).flagC = s.flagC := rfl
@[simp] theorem State.charge_flagByte (s : State) (n : Nat) : (s.charge n).flagByte = s.flagByte := rfl
@[simp] theorem State.charge_cond (s : State) (n : Nat) (cc : Cond) : (s.charge n).cond cc = s.cond cc := by cases cc <;> rfl
@[simp] theorem State.charge_reg16 (s : State) (n : Nat) (q : Reg16) : (s.charge n).reg16 q = s.reg16 q := by cases q <;> rfl
@[simp] theorem State.charge_hl (s : State) (n : Nat) : (s.charge n).hl = s.hl := rfl
@[simp] theorem State.charge_stackReg (s : State) (n : Nat) (q : StackReg) : (s.charge n).stackReg q = s.stackReg q := by cases q <;> rfl

/-! ### store -/

@[simp] theorem State.store_a (s : State) (addr : Word) (v : Byte) : (s.store addr v).a = s.a := rfl
@[simp] theorem State.store_f (s : State) (addr : Word) (v : Byte) : (s.store addr v).f = s.f := rfl
@[simp] theorem State.store_b (s : State) (addr : Word) (v : Byte) : (s.store addr v).b = s.b := rfl
@[simp] theorem State.store_c (s : State) (addr : Word) (v : Byte) : (s.store addr v).c = s.c := rfl
@[simp] theorem State.store_d (s : State) (addr : Word) (v : Byte) : (s.store addr v).d = s.d := rfl
@[simp] theorem State.store_e (s : State) (addr : Word) (v : Byte) : (s.store addr v).e = s.e := rfl
@[simp] theorem State.store_h (s : State) (addr : Word) (v : Byte) : (s.store addr v).h = s.h := rfl
@[simp] theorem State.store_l (s : State) (addr : Word) (v : Byte) : (s.store addr v).l = s.l := rfl
@[simp] theorem State.store_sp (s : State) (addr : Word) (v : Byte) : (s.store addr v).sp = s.sp := rfl
@[simp] theorem State.store_pc (s : State) (addr : Word) (v : Byte) : (s.store addr v).pc = s.pc := rfl
@[simp] theorem State.store_ime (s : State) (addr : Word) (v : Byte) : (s.store addr v).ime = s.ime := rfl
@[simp] theorem State.store_eiPending (s : State) (addr : Word) (v : Byte) : (s.store addr v).eiPending = s.eiPending := rfl
@[simp] theorem State.store_run (s : State) (addr : Word) (v : Byte) : (s.store addr v).run = s.run := rfl
@[simp] theorem State.store_fault (s : State) (addr : Word) (v : Byte) : (s.store addr v).fault = s.fault := rfl
@[simp] theorem State.store_cycles (s : State) (addr : Word) (v : Byte) : (s.store addr v).cycles = s.cycles := rfl
@[simp] theorem State.store_mem (s : State) (addr : Word) (v : Byte) : (s.store addr v).mem = s.mem.write addr.toNat v := rfl
@[simp] theorem State.store_params (s : State) (addr : Word) (v : Byte) : (s.store addr v).params = s.params := rfl
@[simp] theorem State.store_reg8 (s : State) (addr : Word) (v : Byte) (q : Reg8) : (s.store addr v).reg8 q = s.reg8 q := by cases q <;> rfl
@[simp] theorem State.store_flagZ (s : State) (addr : Word) (v : Byte) : (s.store addr v).flagZ = s.flagZ := rfl
@[simp] theorem State.store_flagN (s : State) (addr : Word) (v : Byte) : (s.store addr v).flagN = s.flagN := rfl
@[simp] theorem State.store_flagH (s : State) (addr : Word) (v : Byte) : (s.store addr v).flagH = s.flagH := rfl
@[simp] theorem State.store_flagC (s : State) (addr : Word) (v : Byte) : (s.store addr v).flagC = s.flagC := rfl
@[simp] theorem State.store_flagByte (s : State) (addr : Word) (v : Byte) : (s.store addr v).flagByte = s.flagByte := rfl
@[simp] theorem State.store_cond (s : State) (addr : Word) (v : Byte) (cc : Cond) : (s.store addr v).cond cc = s.cond cc := by cases cc <;> rfl
@[simp] theorem State.store_reg16 (s : State) (addr : Word) (v : Byte) (q : Reg16) : (s.store addr v).reg16 q = s.reg16 q := by cases q <;> rfl
@[simp] theorem State.store_hl (s : State) (addr : Word) (v : Byte) : (s.store addr v).hl = s.hl := rfl
@[simp] theorem State.store_stackReg (s : State) (addr : Word) (v : Byte) (q : StackReg) : (s.store addr v).stackReg q = s.stackReg q := by cases q <;> rfl

/-! ### setFlags -/

@[simp] theorem State.setFlags_a (s : State) (z n h c : Option Bool) : (s.setFlags z n h c).a = s.a := rfl
@[simp] theorem State.setFlags_f (s : State) (z n h c : Option Bool) : (s.setFlags z n h c).f = packFlags (z.getD s.flagZ) (n.getD s.flagN) (h.getD s.flagH) (c.getD s.flagC) := rfl
@[simp] theorem State.setFlags_b (s : State) (z n h c : Option Bool) : (s.setFlags z n h c).b = s.b := rfl
@[simp] theorem State.setFlags_c (s : State) (z n h c : Option Bool) : (s.setFlags z n h c).c = s.c := rfl
@[simp] theorem State.setFlags_d (s : State) (z n h c : Option Bool) : (s.setFlags z n h c).d = s.d := rfl
@[simp] theorem State.setFlags_e (s : State) (z n h c : Option Bool) : (s.setFlags z n h c).e = s.e := rfl
@[simp] theorem State.setFlags_h (s : State) (z n h c : Option Bool) : (s.setFlags z n h c).h = s.h := rfl
@[simp] theorem State.setFlags_l (s : State) (z n h c : Option Bool) : (s.setFlags z n h c).l = s.l := rfl
@[simp] theorem State.setFlags_sp (s : State) (z n h c : Option Bool) : (s.setFlags z n h c).sp = s.sp := rfl
@[simp] theorem State.setFlags_pc (s : State) (z n h c : Option Bool) : (s.setFlags z n h c).pc = s.pc := rfl
@[simp] theorem State.setFlags_ime (s : State) (z n h c : Option Bool) : (s.setFlags z n h c).ime = s.ime := rfl
@[simp] theorem State.setFlags_eiPending (s : State) (z n h c : Option Bool) : (s.setFlags z n h c).eiPending = s.eiPending := rfl
@[simp] theorem State.setFlags_run (s : State) (z n h c : Option Bool) : (s.setFlags z n h c).run = s.run := rfl
@[simp] theorem State.setFlags_fault (s : State) (z n h c : Option Bool) : (s.setFlags z n h c).fault = s.fault := rfl
@[simp] theorem State.setFlags_cycles (s : State) (z n h c : Option Bool) : (s.setFlags z n h c).cycles = s.cycles := rfl
@[simp] theorem State.setFlags_mem (s : State) (z n h c : Option Bool) : (s.setFlags z n h c).mem = s.mem := rfl
@[simp] theorem State.setFlags_params (s : State) (z n h c : Option Bool) : (s.setFlags z n h c).params = s.params := rfl
@[simp] theorem State.setFlags_reg8 (s : State) (z n h c : Option Bool) (q : Reg8) : (s.setFlags z n h c).reg8 q = s.reg8 q := by cases q <;> rfl
@[simp] theorem State.setFlags_reg16 (s : State) (z n h c : Option Bool) (q : Reg16) : (s.setFlags z n h c).reg16 q = s.reg16 q := by cases q <;> rfl
@[simp] theorem State.setFlags_hl (s : State) (z n h c : Option Bool) : (s.setFlags z n h c).hl = s.hl := rfl

/-! ### takeFault -/

@[simp] theorem State.takeFault_a (s : State) (x : Abort) : (s.takeFault x).a = s.a := rfl
@[simp] theorem State.takeFault_f (s : State) (x : Abort) : (s.takeFault x).f = s.f := rfl
@[simp] theorem State.takeFault_b (s : State) (x : Abort) : (s.takeFault x).b = s.b := rfl
@[simp] theorem State.takeFault_c (s : State) (x : Abort) : (s.takeFault x).c = s.c := rfl
@[simp] theorem State.takeFault_d (s : State) (x : Abort) : (s.takeFault x).d = s.d := rfl
@[simp] theorem State.takeFault_e (s : State) (x : Abort) : (s.takeFault x).e = s.e := rfl
@[simp] theorem State.takeFault_h (s : State) (x : Abort) : (s.takeFault x).h = s.h := rfl
@[simp] theorem State.takeFault_l (s : State) (x : Abort) : (s.takeFault x).l = s.l := rfl
@[simp] theorem State.takeFault_sp (s : State) (x : Abort) : (s.takeFault x).sp = s.sp := rfl
@[simp] theorem State.takeFault_pc (s : State) (x : Abort) : (s.takeFault x).pc = s.pc := rfl
@[simp] theorem State.takeFault_ime (s : State) (x : Abort) : (s.takeFault x).ime = s.ime := rfl
@[simp] theorem State.takeFault_eiPending (s : State) (x : Abort) : (s.takeFault x).eiPending = s.eiPending := rfl
@[simp] theorem State.takeFault_run (s : State) (x : Abort) : (s.takeFault x).run = .faulted := rfl
@[simp] theorem State.takeFault_fault (s : State) (x : Abort) : (s.takeFault x).fault = some ⟨x.kind, x.value, s.pc⟩ := rfl
@[simp] theorem State.takeFault_cycles (s : State) (x : Abort) : (s.takeFault x).cycles = s.cycles := rfl
@[simp] theorem State.takeFault_mem (s : State) (x : Abort) : (s.takeFault x).mem = s.mem := rfl
@[simp] theorem State.takeFault_params (s : State) (x : Abort) : (s.takeFault x).params = s.params := rfl
@[simp] theorem State.takeFault_reg8 (s : State) (x : Abort) (q : Reg8) : (s.takeFault x).reg8 q = s.reg8 q := by cases q <;> rfl
@[simp] theorem State.takeFault_flagZ (s : State) (x : Abort) : (s.takeFault x).flagZ = s.flagZ := rfl
@[simp] theorem State.takeFault_flagN (s : State) (x : Abort) : (s.takeFault x).flagN = s.flagN := rfl
@[simp] theorem State.takeFault_flagH (s : State) (x : Abort) : (s.takeFault x).flagH = s.flagH := rfl
@[simp] theorem State.takeFault_flagC (s : State) (x : Abort) : (s.takeFault x).flagC = s.flagC := rfl
@[simp] theorem State.takeFault_flagByte (s : State) (x : Abort) : (s.takeFault x).flagByte = s.flagByte := rfl
@[simp] theorem State.takeFault_cond (s : State) (x : Abort) (cc : Cond) : (s.takeFault x).cond cc = s.cond cc := by cases cc <;> rfl
@[simp] theorem State.takeFault_reg16 (s : State) (x : Abort) (q : Reg16) : (s.takeFault x).reg16 q = s.reg16 q := by cases q <;> rfl
@[simp] theorem State.takeFault_hl (s : State) (x : Abort) : (s.takeFault x).hl = s.hl := rfl
@[simp] theorem State.takeFault_stackReg (s : State) (x : Abort) (q : StackReg) : (s.takeFault x).stackReg q = s.stackReg q := by cases q <;> rfl

/-! ### setReg8, setReg16, setStackReg -/

@[simp] theorem State.setReg8_pc (s : State) (r : Reg8) (v : Byte) : (s.setReg8 r v).pc = s.pc := by cases r <;> rfl
@[simp] theorem State.setReg8_ime (s : State) (r : Reg8) (v : Byte) : (s.setReg8 r v).ime = s.ime := by cases r <;> rfl
@[simp] theorem State.setReg8_eiPending (s : State) (r : Reg8) (v : Byte) : (s.setReg8 r v).eiPending = s.eiPending := by cases r <;> rfl
@[simp] theorem State.setReg8_run (s : State) (r : Reg8) (v : Byte) : (s.setReg8 r v).run = s.run := by cases r <;> rfl
@[simp] theorem State.setReg8_fault (s : State) (r : Reg8) (v : Byte) : (s.setReg8 r v).fault = s.fault := by cases r <;> rfl
@[simp] theorem State.setReg8_cycles (s : State) (r : Reg8) (v : Byte) : (s.setReg8 r v).cycles = s.cycles := by cases r <;> rfl
@[simp] theorem State.setReg8_mem (s : State) (r : Reg8) (v : Byte) : (s.setReg8 r v).mem = s.mem := by cases r <;> rfl
@[simp] theorem State.setReg8_params (s : State) (r : Reg8) (v : Byte) : (s.setReg8 r v).params = s.params := by cases r <;> rfl
@[simp] theorem State.setReg8_f (s : State) (r : Reg8) (v : Byte) : (s.setReg8 r v).f = s.f := by cases r <;> rfl
@[simp] theorem State.setReg8_sp (s : State) (r : Reg8) (v : Byte) : (s.setReg8 r v).sp = s.sp := by cases r <;> rfl
@[simp] theorem State.setReg8_flagZ (s : State) (r : Reg8) (v : Byte) : (s.setReg8 r v).flagZ = s.flagZ := by cases r <;> rfl
@[simp] theorem State.setReg8_flagN (s : State) (r : Reg8) (v : Byte) : (s.setReg8 r v).flagN = s.flagN := by cases r <;> rfl
@[simp] theorem State.setReg8_flagH (s : State) (r : Reg8) (v : Byte) : (s.setReg8 r v).flagH = s.flagH := by cases r <;> rfl
@[simp] theorem State.setReg8_flagC (s : State) (r : Reg8) (v : Byte) : (s.setReg8 r v).flagC = s.flagC := by cases r <;> rfl
@[simp] theorem State.setReg8_flagByte (s : State) (r : Reg8) (v : Byte) : (s.setReg8 r v).flagByte = s.flagByte := by cases r <;> rfl
@[simp] theorem State.setReg8_cond (s : State) (r : Reg8) (v : Byte) (cc : Cond) : (s.setReg8 r v).cond cc = s.cond cc := by cases r <;> cases cc <;> rfl

@[simp] theorem State.setReg16_pc (s : State) (r : Reg16) (v : Word) : (s.setReg16 r v).pc = s.pc := by cases r <;> rfl
@[simp] theorem State.setReg16_ime (s : State) (r : Reg16) (v : Word) : (s.setReg16 r v).ime = s.ime := by cases r <;> rfl
@[simp] theorem State.setReg16_eiPending (s : State) (r : Reg16) (v : Word) : (s.setReg16 r v).eiPending = s.eiPending := by cases r <;> rfl
@[simp] theorem State.setReg16_run (s : State) (r : Reg16) (v : Word) : (s.setReg16 r v).run = s.run := by cases r <;> rfl
@[simp] theorem State.setReg16_fault (s : State) (r : Reg16) (v : Word) : (s.setReg16 r v).fault = s.fault := by cases r <;> rfl
@[simp] theorem State.setReg16_cycles (s : State) (r : Reg16) (v : Word) : (s.setReg16 r v).cycles = s.cycles := by cases r <;> rfl
@[simp] theorem State.setReg16_mem (s : State) (r : Reg16) (v : Word) : (s.setReg16 r v).mem = s.mem := by cases r <;> rfl
@[simp] theorem State.setReg16_params (s : State) (r : Reg16) (v : Word) : (s.setReg16 r v).params = s.params := by cases r <;> rfl
@[simp] theorem State.setReg16_a (s : State) (r : Reg16) (v : Word) : (s.setReg16 r v).a = s.a := by cases r <;> rfl
@[simp] theorem State.setReg16_f (s : State) (r : Reg16) (v : Word) : (s.setReg16 r v).f = s.f := by cases r <;> rfl
@[simp] theorem State.setReg16_flagZ (s : State) (r : Reg16) (v : Word) : (s.setReg16 r v).flagZ = s.flagZ := by cases r <;> rfl
@[simp] theorem State.setReg16_flagN (s : State) (r : Reg16) (v : Word) : (s.setReg16 r v).flagN = s.flagN := by cases r <;> rfl
@[simp] theorem State.setReg16_flagH (s : State) (r : Reg16) (v : Word) : (s.setReg16 r v).flagH = s.flagH := by cases r <;> rfl
@[simp] theorem State.setReg16_flagC (s : State) (r : Reg16) (v : Word) : (s.setReg16 r v).flagC = s.flagC := by cases r <;> rfl
@[simp] theorem State.setReg16_flagByte (s : State) (r : Reg16) (v : Word) : (s.setReg16 r v).flagByte = s.flagByte := by cases r <;> rfl
@[simp] theorem State.setReg16_cond (s : State) (r : Reg16) (v : Word) (cc : Cond) : (s.setReg16 r v).cond cc = s.cond cc := by cases r <;> cases cc <;> rfl

@[simp] theorem State.setStackReg_pc (s : State) (r : StackReg) (v : Word) : (s.setStackReg r v).pc = s.pc := by cases r <;> rfl
@[simp] theorem State.setStackReg_ime (s : State) (r : StackReg) (v : Word) : (s.setStackReg r v).ime = s.ime := by cases r <;> rfl
@[simp] theorem State.setStackReg_eiPending (s : State) (r : StackReg) (v : Word) : (s.setStackReg r v).eiPending = s.eiPending := by cases r <;> rfl
@[simp] theorem State.setStackReg_run (s : State) (r : StackReg) (v : Word) : (s.setStackReg r v).run = s.run := by cases r <;> rfl
@[simp] theorem State.setStackReg_fault (s : State) (r : StackReg) (v : Word) : (s.setStackReg r v).fault = s.fault := by cases r <;> rfl
@[simp] theorem State.setStackReg_cycles (s : State) (r : StackReg) (v : Word) : (s.setStackReg r v).cycles = s.cycles := by cases r <;> rfl
@[simp] theorem State.setStackReg_mem (s : State) (r : StackReg) (v : Word) : (s.setStackReg r v).mem = s.mem := by cases r <;> rfl
@[simp] theorem State.setStackReg_params (s : State) (r : StackReg) (v : Word) : (s.setStackReg r v).params = s.params := by cases r <;> rfl
@[simp] theorem State.setStackReg_sp (s : State) (r : StackReg) (v : Word) : (s.setStackReg r v).sp = s.sp := by cases r <;> rfl

/-- Reading an 8-bit register after writing one (R21, R24). -/
theorem State.setReg8_reg8 (s : State) (r : Reg8) (v : Byte) (q : Reg8) :
    (s.setReg8 r v).reg8 q = if q = r then v else s.reg8 q := by
  cases r <;> cases q <;> rfl

@[simp] theorem State.setReg8_reg8_same (s : State) (r : Reg8) (v : Byte) : (s.setReg8 r v).reg8 r = v := by
  cases r <;> rfl

@[simp] theorem State.setReg8_a_a (s : State) (v : Byte) : (s.setReg8 .a v).a = v := rfl

/-- The bits of {hi, lo} (R6). -/
theorem getLsbD_pair (hi lo : Byte) (i : Nat) :
    (pair hi lo).getLsbD i = if i < 8 then lo.getLsbD i else hi.getLsbD (i - 8) := by
  show (HAppend.hAppend hi lo : BitVec (8 + 8)).getLsbD i = _
  rw [BitVec.getLsbD_append]

theorem getLsbD_hiByte (v : Word) (i : Nat) : (hiByte v).getLsbD i = (decide (i < 8) && v.getLsbD (8 + i)) :=
  BitVec.getLsbD_extractLsb' ..

theorem getLsbD_loByte (v : Word) (i : Nat) : (loByte v).getLsbD i = (decide (i < 8) && v.getLsbD i) := by
  rw [loByte, BitVec.getLsbD_extractLsb', Nat.zero_add]

@[simp] theorem hiByte_pair (hi lo : Byte) : hiByte (pair hi lo) = hi := by
  apply BitVec.eq_of_getLsbD_eq
  intro i h
  rw [getLsbD_hiByte, getLsbD_pair]
  simp [h]

@[simp] theorem loByte_pair (hi lo : Byte) : loByte (pair hi lo) = lo := by
  apply BitVec.eq_of_getLsbD_eq
  intro i h
  rw [getLsbD_loByte, getLsbD_pair]
  simp [h]

@[simp] theorem pair_hiByte_loByte (v : Word) : pair (hiByte v) (loByte v) = v := by
  apply BitVec.eq_of_getLsbD_eq
  intro i h
  rw [getLsbD_pair, getLsbD_loByte, getLsbD_hiByte]
  by_cases h8 : i < 8
  · simp [h8]
  · have h1 : i - 8 < 8 := by omega
    have h2 : 8 + (i - 8) = i := by omega
    simp [h8, h1, h2]

/-- Reading a pair after writing it (R24). -/
@[simp] theorem State.setReg16_reg16_same (s : State) (r : Reg16) (v : Word) : (s.setReg16 r v).reg16 r = v := by
  cases r
  · exact pair_hiByte_loByte v
  · exact pair_hiByte_loByte v
  · exact pair_hiByte_loByte v
  · rfl

@[simp] theorem State.setReg16_hl_hl (s : State) (v : Word) : (s.setReg16 .hl v).hl = v := pair_hiByte_loByte v

/-- Writing a pair leaves every other pair, and SP, as it was (R24, R25). -/
theorem State.setReg16_reg16_ne (s : State) (r : Reg16) (v : Word) (q : Reg16) (h : q ≠ r) :
    (s.setReg16 r v).reg16 q = s.reg16 q := by
  cases r <;> cases q <;> first | rfl | exact absurd rfl h

/-- Writing a pair leaves A as it was. -/
@[simp] theorem State.setReg16_reg8_a (s : State) (r : Reg16) (v : Word) : (s.setReg16 r v).reg8 .a = s.a := by
  cases r <;> rfl

/-! ### Flags -/

@[simp] theorem packFlags_z (z n h c : Bool) : (packFlags z n h c).getLsbD 7 = z := by
  cases z <;> cases n <;> cases h <;> cases c <;> rfl

@[simp] theorem packFlags_n (z n h c : Bool) : (packFlags z n h c).getLsbD 6 = n := by
  cases z <;> cases n <;> cases h <;> cases c <;> rfl

@[simp] theorem packFlags_h (z n h c : Bool) : (packFlags z n h c).getLsbD 5 = h := by
  cases z <;> cases n <;> cases h <;> cases c <;> rfl

@[simp] theorem packFlags_c (z n h c : Bool) : (packFlags z n h c).getLsbD 4 = c := by
  cases z <;> cases n <;> cases h <;> cases c <;> rfl

/-- The byte of F that the flag update writes has bits 3:0 zero (R22, R23). -/
theorem packFlags_low (z n h c : Bool) : packFlags z n h c &&& 0x0F = 0 := by
  cases z <;> cases n <;> cases h <;> cases c <;> rfl

@[simp] theorem State.setFlags_flagZ (s : State) (z n h c : Option Bool) :
    (s.setFlags z n h c).flagZ = z.getD s.flagZ := packFlags_z _ _ _ _

@[simp] theorem State.setFlags_flagN (s : State) (z n h c : Option Bool) :
    (s.setFlags z n h c).flagN = n.getD s.flagN := packFlags_n _ _ _ _

@[simp] theorem State.setFlags_flagH (s : State) (z n h c : Option Bool) :
    (s.setFlags z n h c).flagH = h.getD s.flagH := packFlags_h _ _ _ _

@[simp] theorem State.setFlags_flagC (s : State) (z n h c : Option Bool) :
    (s.setFlags z n h c).flagC = c.getD s.flagC := packFlags_c _ _ _ _

end Sys2Proof.Machine
end

