-- ==== Sys2Proof/Laws/Bus.lean ====
section
/-! SUPPORT. What the bus primitives do on each kind of address, what reads after a store, and that the bus sees only memory
and the parameters. -/

namespace Sys2Proof.Machine

/-! ### Regions -/

theorem regionOf_rom {a : Word} (h : a.toNat ≤ 0x7FFF) : regionOf a = .rom := by simp [regionOf, h]

theorem regionOf_io {a : Word} (h1 : 0xFF00 ≤ a.toNat) (h2 : a.toNat ≤ 0xFF7F) : regionOf a = .io := by
  unfold regionOf
  rw [if_neg (by omega), if_neg (by omega), if_neg (by omega), if_neg (by omega), if_neg (by omega), if_pos ⟨h1, h2⟩]

theorem regionOf_unmapped {a : Word} (h : (0xE000 ≤ a.toNat ∧ a.toNat ≤ 0xFEFF) ∨ 0xFF80 ≤ a.toNat) :
    regionOf a = .unmapped := by
  unfold regionOf
  rw [if_neg (by omega), if_neg (by omega), if_neg (by omega), if_neg (by omega), if_neg (by omega), if_neg (by omega)]

/-- Below 0xE000 an address is in ROM or in one of the four RAM regions. -/
theorem regionOf_low {a : Word} (h : a.toNat ≤ 0xDFFF) :
    regionOf a = .rom ∨ regionOf a = .vram ∨ regionOf a = .eram ∨ regionOf a = .wram1 ∨ regionOf a = .wram2 := by
  unfold regionOf
  repeat' split
  all_goals simp_all

theorem regionOf_ram {a : Word} (h1 : 0x8000 ≤ a.toNat) (h2 : a.toNat ≤ 0xDFFF) :
    regionOf a = .vram ∨ regionOf a = .eram ∨ regionOf a = .wram1 ∨ regionOf a = .wram2 := by
  unfold regionOf
  rw [if_neg (by omega)]
  repeat' split
  all_goals simp_all

/-- The region rom is 0x0000-0x7FFF. -/
theorem regionOf_eq_rom_iff (a : Word) : regionOf a = .rom ↔ a.toNat ≤ 0x7FFF := by
  constructor
  · intro h
    by_contra hn
    unfold regionOf at h
    rw [if_neg hn] at h
    repeat' split at h
    all_goals simp at h
  · exact regionOf_rom

/-- The region io is 0xFF00-0xFF7F. -/
theorem regionOf_eq_io_iff (a : Word) : regionOf a = .io ↔ 0xFF00 ≤ a.toNat ∧ a.toNat ≤ 0xFF7F := by
  constructor
  · intro h
    unfold regionOf at h
    repeat' split at h
    all_goals first | assumption | simp at h
  · exact fun h => regionOf_io h.1 h.2

/-- The region unmapped is 0xE000-0xFEFF and 0xFF80-0xFFFF. -/
theorem regionOf_eq_unmapped_iff (a : Word) :
    regionOf a = .unmapped ↔ (0xE000 ≤ a.toNat ∧ a.toNat ≤ 0xFEFF) ∨ 0xFF80 ≤ a.toNat := by
  constructor
  · intro h
    unfold regionOf at h
    repeat' split at h
    all_goals first | omega | simp at h
  · exact regionOf_unmapped

/-! ### MemRead -/

theorem readByte_low (s : State) {a : Word} (h : a.toNat ≤ 0xDFFF) : readByte s a = .ok (s.mem.read a.toNat) := by
  rcases regionOf_low h with h | h | h | h | h <;> simp [readByte, h]

theorem readByte_backed (s : State) {a : Word} (h1 : 0xFF00 ≤ a.toNat) (h2 : a.toNat ≤ 0xFF7F)
    (hb : ioBacked s.params a = true) : readByte s a = .ok (s.mem.read a.toNat) := by
  simp [readByte, regionOf_io h1 h2, hb]

theorem readByte_unbacked (s : State) {a : Word} (h1 : 0xFF00 ≤ a.toNat) (h2 : a.toNat ≤ 0xFF7F)
    (hb : ioBacked s.params a = false) : readByte s a = .ok 0 := by
  simp [readByte, regionOf_io h1 h2, hb]

theorem readByte_unmapped (s : State) {a : Word} (h : (0xE000 ≤ a.toNat ∧ a.toNat ≤ 0xFEFF) ∨ 0xFF80 ≤ a.toNat) :
    readByte s a = .error ⟨.readUnmapped, a⟩ := by
  simp [readByte, regionOf_unmapped h]

/-- A read that answers answers what storage holds, or 0x00 where there is none (R62). -/
theorem readByte_eq (s : State) (a : Word) :
    readByte s a = if regionOf a = .unmapped then .error ⟨.readUnmapped, a⟩
      else if hasStorage s.params a = true then .ok (s.mem.read a.toNat) else .ok 0 := by
  unfold readByte hasStorage
  cases regionOf a <;> simp

/-- The bus reads memory and the parameters, and nothing else. -/
theorem readByte_congr {s t : State} (hm : t.mem = s.mem) (hp : t.params = s.params) (a : Word) :
    readByte t a = readByte s a := by
  simp [readByte, hm, hp]

@[simp] theorem readByte_setReg8 (s : State) (r : Reg8) (v : Byte) (a : Word) :
    readByte (s.setReg8 r v) a = readByte s a := readByte_congr (by simp) (by simp) a

@[simp] theorem readByte_setReg16 (s : State) (r : Reg16) (v : Word) (a : Word) :
    readByte (s.setReg16 r v) a = readByte s a := readByte_congr (by simp) (by simp) a

@[simp] theorem readByte_setStackReg (s : State) (r : StackReg) (v : Word) (a : Word) :
    readByte (s.setStackReg r v) a = readByte s a := readByte_congr (by simp) (by simp) a

@[simp] theorem readByte_setSp (s : State) (v : Word) (a : Word) : readByte (s.setSp v) a = readByte s a := rfl

@[simp] theorem readByte_setPc (s : State) (v : Word) (a : Word) : readByte (s.setPc v) a = readByte s a := rfl

@[simp] theorem readByte_setIme (s : State) (v : Bool) (a : Word) : readByte (s.setIme v) a = readByte s a := rfl

@[simp] theorem readByte_setEiPending (s : State) (v : Bool) (a : Word) :
    readByte (s.setEiPending v) a = readByte s a := rfl

@[simp] theorem readByte_setRun (s : State) (v : RunState) (a : Word) : readByte (s.setRun v) a = readByte s a := rfl

@[simp] theorem readByte_charge (s : State) (n : Nat) (a : Word) : readByte (s.charge n) a = readByte s a := rfl

@[simp] theorem readByte_setFlags (s : State) (z n h c : Option Bool) (a : Word) :
    readByte (s.setFlags z n h c) a = readByte s a := rfl

@[simp] theorem readByte_takeFault (s : State) (x : Abort) (a : Word) :
    readByte (s.takeFault x) a = readByte s a := rfl

/-- Reading after a store (R65, R66): the byte at its address if there is storage, every other byte as before. -/
theorem readByte_store (s : State) (a : Word) (v : Byte) (x : Word) :
    readByte (s.store a v) x = if x = a ∧ hasStorage s.params a = true then .ok v else readByte s x := by
  rw [readByte_eq, readByte_eq]
  simp only [State.store_params, State.store_mem, Memory.read_write]
  by_cases hx : x = a
  · subst hx
    by_cases hs : hasStorage s.params x = true
    · have : regionOf x ≠ .unmapped := by
        intro h
        simp [hasStorage, h] at hs
      simp [hs, this]
    · simp [hs]
  · have : x.toNat ≠ a.toNat := fun h => hx (BitVec.eq_of_toNat_eq h)
    simp [hx, this]

/-! ### MemWrite -/

theorem writeByte_rom (s : State) {a : Word} (h : a.toNat ≤ 0x7FFF) (v : Byte) :
    writeByte s a v = .error ⟨.writeRom, a⟩ := by
  simp [writeByte, regionOf_rom h]

theorem writeByte_unmapped (s : State) {a : Word} (h : (0xE000 ≤ a.toNat ∧ a.toNat ≤ 0xFEFF) ∨ 0xFF80 ≤ a.toNat)
    (v : Byte) : writeByte s a v = .error ⟨.writeUnmapped, a⟩ := by
  simp [writeByte, regionOf_unmapped h]

/-- A write to a writable address stores where there is storage, and else changes nothing (R63). -/
theorem writeByte_writable (s : State) {a : Word}
    (h : (0x8000 ≤ a.toNat ∧ a.toNat ≤ 0xDFFF) ∨ (0xFF00 ≤ a.toNat ∧ a.toNat ≤ 0xFF7F)) (v : Byte) :
    writeByte s a v = .ok (if hasStorage s.params a = true then s.store a v else s) := by
  rcases h with ⟨h1, h2⟩ | ⟨h1, h2⟩
  · rcases regionOf_ram h1 h2 with h | h | h | h <;> simp [writeByte, hasStorage, h]
  · simp only [writeByte, hasStorage, regionOf_io h1 h2]
    split <;> rfl

/-- A write that completes changed nothing, or stored the byte outside ROM where there is storage (R63). -/
theorem writeByte_ok {s t : State} {a : Word} {v : Byte} (h : writeByte s a v = .ok t) :
    t = s ∨ (t = s.store a v ∧ regionOf a ≠ .rom ∧ hasStorage s.params a = true) := by
  unfold writeByte at h
  cases hr : regionOf a <;> simp only [hr] at h
  case io =>
    split at h
    · next hb => exact .inr ⟨(Except.ok.inj h).symm, by simp, by simp [hasStorage, hr, hb]⟩
    · exact .inl (Except.ok.inj h).symm
  all_goals first
    | exact .inr ⟨(Except.ok.inj h).symm, by simp, by simp [hasStorage, hr]⟩
    | simp at h

end Sys2Proof.Machine
end

