-- ==== Sys2Proof/Laws/Decode.lean ====
section
/-! SUPPORT. What the decoder's tag of a byte says of the encoding, and what a fetch answers, each said once. -/

namespace Sys2Proof

open Sys2Proof.Machine

/-- A property of bytes that holds of each of the 256 bytes holds of every byte. -/
theorem byte_forall {P : Byte → Prop} (h : ∀ k : Fin 256, P (BitVec.ofNat 8 k)) (o : Byte) : P o := by
  have := h ⟨o.toNat, o.isLt⟩
  simpa using this

/-- An instruction of the primary map at the byte o, of the bytes given: they encode it, it is well-formed under FULL, and
under DOCUMENTED where o is documented; it is neither the escape nor Invalid. -/
def Tagged (o : Byte) (i : Instr) (bytes : List Byte) : Prop :=
  encode i = bytes ∧ WellFormed .full i = true ∧
    (documentedOpcodes.contains o = true → WellFormed .documented i = true) ∧ i ≠ .prefixCb ∧ ∀ code, i ≠ .invalid code

/-- What the tag of a primary byte says (R100, R105, R107, R109, R110). -/
def TagAgrees (o : Byte) : Prop :=
  match decodePrimary o with
  | .op i => Tagged o i [o] ∧ lengthOf o = 1
  | .imm8 mk => (∀ n, Tagged o (mk n) [o, n]) ∧ lengthOf o = 2
  | .imm16 mk => (∀ nn, Tagged o (mk nn) [o, loByte nn, hiByte nn]) ∧ lengthOf o = 3
  | .escape => o = 0xCB
  | .invalid => o ∈ illegalOpcodes ∧ documentedOpcodes.contains o = false ∧ lengthOf o = 1

set_option maxRecDepth 4000 in
theorem tag_agrees (o : Byte) : TagAgrees o := by
  refine byte_forall (fun k => ?_) o
  fin_cases k <;> first
    | exact ⟨⟨rfl, rfl, (by intro h; first | rfl | cases h), (by intro h; cases h), (by intro c h; cases h)⟩, rfl⟩
    | exact ⟨fun n => ⟨rfl, rfl, (by intro h; first | rfl | cases h), (by intro h; cases h), (by intro c h; cases h)⟩, rfl⟩
    | rfl
    | exact ⟨by decide, rfl, rfl⟩

/-- What the instruction of a CB-table byte says (R106, R108). -/
def CbAgrees (o : Byte) : Prop :=
  encode (decodeCb .full o) = [0xCB, o] ∧ WellFormed .full (decodeCb .full o) = true ∧
    decodeCb .full o ≠ .prefixCb ∧ ∀ code, decodeCb .full o ≠ .invalid code

theorem cb_agrees (o : Byte) : CbAgrees o := by
  refine byte_forall (fun k => ?_) o
  fin_cases k <;> exact ⟨rfl, rfl, (by intro h; cases h), (by intro c h; cases h)⟩

/-- No byte after the escape decodes to the escape (R106). -/
theorem decodeCb_ne_prefixCb (ds : DecodeSet) (o : Byte) : decodeCb ds o ≠ .prefixCb := by
  cases ds with
  | full => exact (cb_agrees o).2.2.1
  | documented => exact fun h => by cases h

/-! ### The bytes of a code of Invalid (R306) -/

theorem encode_invalid_primary (o : Byte) : encode (.invalid (primaryCode o)) = [o] := by
  have h1 : hiByte (primaryCode o) = 0 := hiByte_pair 0 o
  have h2 : loByte (primaryCode o) = o := loByte_pair 0 o
  simp [encode, h1, h2]

theorem encode_invalid_cb (o : Byte) : encode (.invalid (cbCode o)) = [0xCB, o] := by
  have h1 : hiByte (cbCode o) = 0xCB := hiByte_pair _ o
  have h2 : loByte (cbCode o) = o := loByte_pair _ o
  simp [encode, h1, h2]

theorem pair_toNat (h l : Byte) : (pair h l).toNat = h.toNat * 256 + l.toNat := by
  show (HAppend.hAppend h l : BitVec (8 + 8)).toNat = _
  rw [BitVec.toNat_append, ← Nat.shiftLeft_add_eq_or_of_lt (by have := l.isLt; omega), Nat.shiftLeft_eq]

end Sys2Proof
end

