-- ==== Sys2Proof/Laws/Effect.lean ====
section
/-! SUPPORT. What the body of an instruction can do to the state, said once for each shared operation and then, by
exec_shape, for every instruction but the escape, which exec_prefixCb takes apart. -/

namespace Sys2Proof.Machine

/-! ### The end of an instruction -/

@[simp] theorem State.promoteEi_ime (s : State) (arm : Bool) : (s.promoteEi arm).ime = (s.ime || (arm && s.eiPending)) := by
  unfold State.promoteEi
  split <;> simp_all

@[simp] theorem State.promoteEi_eiPending (s : State) (arm : Bool) :
    (s.promoteEi arm).eiPending = (s.eiPending && !arm) := by
  unfold State.promoteEi
  cases arm <;> cases h : s.eiPending <;> simp [h]

/-- The promotion changes IME and EI_PENDING only (R141). -/
theorem State.promoteEi_eq (s : State) (arm : Bool) :
    s.promoteEi arm = (s.setIme (s.ime || (arm && s.eiPending))).setEiPending (s.eiPending && !arm) := by
  unfold State.promoteEi
  obtain ⟨⟩ := s
  rename_i ei _ _ _ _ _
  cases arm <;> cases ei <;> simp [State.setIme, State.setEiPending]

/-- Completing changes IME, EI_PENDING and the cycle counter only (R130). -/
theorem State.complete_eq (s : State) (arm : Bool) (cost : Nat) :
    s.complete arm cost =
      ((s.setIme (s.ime || (arm && s.eiPending))).setEiPending (s.eiPending && !arm)).charge cost := by
  rw [State.complete, State.promoteEi_eq]

@[simp] theorem State.complete_a (s : State) (arm : Bool) (cost : Nat) : (s.complete arm cost).a = s.a := by
  rw [State.complete_eq]; rfl
@[simp] theorem State.complete_f (s : State) (arm : Bool) (cost : Nat) : (s.complete arm cost).f = s.f := by
  rw [State.complete_eq]; rfl
@[simp] theorem State.complete_b (s : State) (arm : Bool) (cost : Nat) : (s.complete arm cost).b = s.b := by
  rw [State.complete_eq]; rfl
@[simp] theorem State.complete_c (s : State) (arm : Bool) (cost : Nat) : (s.complete arm cost).c = s.c := by
  rw [State.complete_eq]; rfl
@[simp] theorem State.complete_d (s : State) (arm : Bool) (cost : Nat) : (s.complete arm cost).d = s.d := by
  rw [State.complete_eq]; rfl
@[simp] theorem State.complete_e (s : State) (arm : Bool) (cost : Nat) : (s.complete arm cost).e = s.e := by
  rw [State.complete_eq]; rfl
@[simp] theorem State.complete_h (s : State) (arm : Bool) (cost : Nat) : (s.complete arm cost).h = s.h := by
  rw [State.complete_eq]; rfl
@[simp] theorem State.complete_l (s : State) (arm : Bool) (cost : Nat) : (s.complete arm cost).l = s.l := by
  rw [State.complete_eq]; rfl
@[simp] theorem State.complete_sp (s : State) (arm : Bool) (cost : Nat) : (s.complete arm cost).sp = s.sp := by
  rw [State.complete_eq]; rfl
@[simp] theorem State.complete_pc (s : State) (arm : Bool) (cost : Nat) : (s.complete arm cost).pc = s.pc := by
  rw [State.complete_eq]; rfl
@[simp] theorem State.complete_run (s : State) (arm : Bool) (cost : Nat) : (s.complete arm cost).run = s.run := by
  rw [State.complete_eq]; rfl
@[simp] theorem State.complete_fault (s : State) (arm : Bool) (cost : Nat) : (s.complete arm cost).fault = s.fault := by
  rw [State.complete_eq]; rfl
@[simp] theorem State.complete_mem (s : State) (arm : Bool) (cost : Nat) : (s.complete arm cost).mem = s.mem := by
  rw [State.complete_eq]; rfl
@[simp] theorem State.complete_params (s : State) (arm : Bool) (cost : Nat) : (s.complete arm cost).params = s.params := by
  rw [State.complete_eq]; rfl
@[simp] theorem State.complete_flagZ (s : State) (arm : Bool) (cost : Nat) : (s.complete arm cost).flagZ = s.flagZ := by
  rw [State.complete_eq]; rfl
@[simp] theorem State.complete_flagN (s : State) (arm : Bool) (cost : Nat) : (s.complete arm cost).flagN = s.flagN := by
  rw [State.complete_eq]; rfl
@[simp] theorem State.complete_flagH (s : State) (arm : Bool) (cost : Nat) : (s.complete arm cost).flagH = s.flagH := by
  rw [State.complete_eq]; rfl
@[simp] theorem State.complete_flagC (s : State) (arm : Bool) (cost : Nat) : (s.complete arm cost).flagC = s.flagC := by
  rw [State.complete_eq]; rfl
@[simp] theorem State.complete_flagByte (s : State) (arm : Bool) (cost : Nat) : (s.complete arm cost).flagByte = s.flagByte := by
  rw [State.complete_eq]; rfl
@[simp] theorem State.complete_hl (s : State) (arm : Bool) (cost : Nat) : (s.complete arm cost).hl = s.hl := by
  rw [State.complete_eq]; rfl
@[simp] theorem State.complete_ime (s : State) (arm : Bool) (cost : Nat) : (s.complete arm cost).ime = (s.ime || (arm && s.eiPending)) := by
  rw [State.complete_eq]; rfl
@[simp] theorem State.complete_eiPending (s : State) (arm : Bool) (cost : Nat) : (s.complete arm cost).eiPending = (s.eiPending && !arm) := by
  rw [State.complete_eq]; rfl
@[simp] theorem State.complete_cycles (s : State) (arm : Bool) (cost : Nat) : (s.complete arm cost).cycles = s.cycles + cost := by
  rw [State.complete_eq]; rfl
@[simp] theorem State.complete_reg8 (s : State) (arm : Bool) (cost : Nat) (q : Reg8) : (s.complete arm cost).reg8 q = s.reg8 q := by
  rw [State.complete_eq]; cases q <;> rfl
@[simp] theorem State.complete_reg16 (s : State) (arm : Bool) (cost : Nat) (q : Reg16) : (s.complete arm cost).reg16 q = s.reg16 q := by
  rw [State.complete_eq]; cases q <;> rfl
@[simp] theorem State.complete_stackReg (s : State) (arm : Bool) (cost : Nat) (q : StackReg) : (s.complete arm cost).stackReg q = s.stackReg q := by
  rw [State.complete_eq]; cases q <;> rfl
@[simp] theorem State.complete_cond (s : State) (arm : Bool) (cost : Nat) (q : Cond) : (s.complete arm cost).cond q = s.cond q := by
  rw [State.complete_eq]; cases q <;> rfl
@[simp] theorem readByte_complete (s : State) (arm : Bool) (cost : Nat) (a : Word) :
    readByte (s.complete arm cost) a = readByte s a := readByte_congr (by simp) (by simp) a

theorem runInstr_ok {len : Word} {cost : Nat} {body : State → Access State} {s t : State}
    (h : body (s.setPc (s.pc + len)) = .ok t) : runInstr len cost body s = .next (t.complete s.eiPending cost) := by
  simp [runInstr, h]

theorem runInstr_error {len : Word} {cost : Nat} {body : State → Access State} {s : State} {e : Abort}
    (h : body (s.setPc (s.pc + len)) = .error e) : runInstr len cost body s = .next (s.takeFault e) := by
  simp [runInstr, h]

/-- An instruction completes or takes a fault; it answers nothing else (R137). -/
theorem runInstr_cases {len : Word} {cost : Nat} {body : State → Access State} {s t : State}
    (h : runInstr len cost body s = .next t) :
    (∃ u, body (s.setPc (s.pc + len)) = .ok u ∧ t = u.complete s.eiPending cost) ∨ ∃ e, t = s.takeFault e := by
  unfold runInstr at h
  split at h
  · next u hu => exact .inl ⟨u, hu, (Host.Outcome.next.inj h).symm⟩
  · next e he => exact .inr ⟨e, (Host.Outcome.next.inj h).symm⟩

/-! ### Effects -/

/-- Memory after some stores, each outside ROM and where there is storage. -/
inductive Stores (p : Params) : Memory → Memory → Prop where
  | none (m : Memory) : Stores p m m
  | more {m m' : Memory} (a : Word) (v : Byte) (h : Stores p m m') (hr : regionOf a ≠ .rom)
      (hs : hasStorage p a = true) : Stores p m (m'.write a.toNat v)

theorem Stores.trans {p : Params} {m m' m'' : Memory} (h : Stores p m m') (h' : Stores p m' m'') : Stores p m m'' := by
  induction h' with
  | none => exact h
  | more a v _ hr hs ih => exact .more a v ih hr hs

/-- What a body can do from s to t. Where one of the marks is false the register it stands for is as before: F (wf), SP
(wsp), IME and EI_PENDING (wie). -/
structure Effect (wf wsp wie : Bool) (s t : State) : Prop where
  params : t.params = s.params
  fault : t.fault = s.fault
  cycles : t.cycles = s.cycles
  run : t.run = s.run ∨ t.run = .stopped ∨ t.run = .halted
  low : s.f &&& 0x0F = 0 → t.f &&& 0x0F = 0
  mem : Stores s.params s.mem t.mem
  f : wf = false → t.f = s.f
  sp : wsp = false → t.sp = s.sp
  ie : wie = false → t.ime = s.ime ∧ t.eiPending = s.eiPending

theorem Effect.mono {wf wsp wie wf' wsp' wie' : Bool} {s t : State} (h : Effect wf wsp wie s t)
    (hf : wf' = false → wf = false) (hs : wsp' = false → wsp = false) (hi : wie' = false → wie = false) :
    Effect wf' wsp' wie' s t :=
  { h with f := fun x => h.f (hf x), sp := fun x => h.sp (hs x), ie := fun x => h.ie (hi x) }

theorem Effect.trans {wf wsp wie : Bool} {s t u : State} (h : Effect wf wsp wie s t) (h' : Effect wf wsp wie t u) :
    Effect wf wsp wie s u where
  params := h'.params.trans h.params
  fault := h'.fault.trans h.fault
  cycles := h'.cycles.trans h.cycles
  run := by
    rcases h'.run with h1 | h1 | h1
    · rcases h.run with h2 | h2 | h2
      · exact .inl (h1.trans h2)
      · exact .inr (.inl (h1.trans h2))
      · exact .inr (.inr (h1.trans h2))
    · exact .inr (.inl h1)
    · exact .inr (.inr h1)
  low := fun x => h'.low (h.low x)
  mem := h.mem.trans (h.params ▸ h'.mem)
  f := fun x => (h'.f x).trans (h.f x)
  sp := fun x => (h'.sp x).trans (h.sp x)
  ie := fun x => ⟨(h'.ie x).1.trans (h.ie x).1, (h'.ie x).2.trans (h.ie x).2⟩

/-- A state that differs in general registers, PC, and what the marks allow. -/
theorem Effect.of_eq {wf wsp wie : Bool} {s t : State} (params : t.params = s.params) (fault : t.fault = s.fault)
    (cycles : t.cycles = s.cycles) (run : t.run = s.run) (mem : t.mem = s.mem)
    (low : s.f &&& 0x0F = 0 → t.f &&& 0x0F = 0) (f : wf = false → t.f = s.f) (sp : wsp = false → t.sp = s.sp)
    (ie : wie = false → t.ime = s.ime ∧ t.eiPending = s.eiPending) : Effect wf wsp wie s t :=
  { params, fault, cycles, run := .inl run, low, mem := mem ▸ .none _, f, sp, ie }

theorem Effect.refl (wf wsp wie : Bool) (s : State) : Effect wf wsp wie s s :=
  .of_eq rfl rfl rfl rfl rfl id (fun _ => rfl) (fun _ => rfl) (fun _ => ⟨rfl, rfl⟩)

theorem Effect.setReg8 (wf wsp wie : Bool) (s : State) (r : Reg8) (v : Byte) : Effect wf wsp wie s (s.setReg8 r v) :=
  .of_eq (by simp) (by simp) (by simp) (by simp) (by simp) (by simp) (by simp) (by simp) (by simp)

theorem Effect.setPc (wf wsp wie : Bool) (s : State) (v : Word) : Effect wf wsp wie s (s.setPc v) :=
  .of_eq rfl rfl rfl rfl rfl id (fun _ => rfl) (fun _ => rfl) (fun _ => ⟨rfl, rfl⟩)

theorem Effect.setSp (wf wie : Bool) (s : State) (v : Word) : Effect wf true wie s (s.setSp v) :=
  .of_eq rfl rfl rfl rfl rfl id (fun _ => rfl) (fun h => by simp at h) (fun _ => ⟨rfl, rfl⟩)

/-- Writing a pair writes SP only when the pair is SP. -/
theorem Effect.setReg16 {wf wsp wie : Bool} (s : State) (r : Reg16) (v : Word) (h : wsp = false → r ≠ .sp) :
    Effect wf wsp wie s (s.setReg16 r v) := by
  refine .of_eq (by simp) (by simp) (by simp) (by simp) (by simp) (by simp) (by simp) (fun hw => ?_) (by simp)
  cases r
  case sp => exact absurd rfl (h hw)
  all_goals rfl

theorem Effect.setFlags (wsp wie : Bool) (s : State) (z n h c : Option Bool) :
    Effect true wsp wie s (s.setFlags z n h c) :=
  .of_eq rfl rfl rfl rfl rfl (fun _ => packFlags_low _ _ _ _) (fun h => by simp at h) (fun _ => rfl)
    (fun _ => ⟨rfl, rfl⟩)

theorem Effect.setStackReg {wf wsp wie : Bool} (s : State) (r : StackReg) (v : Word) (h : wf = false → r ≠ .af) :
    Effect wf wsp wie s (s.setStackReg r v) := by
  refine .of_eq (by simp) (by simp) (by simp) (by simp) (by simp) (fun hl => ?_) (fun hw => ?_) (by simp) (by simp)
  · cases r
    case af =>
      show (loByte v &&& 0xF0) &&& 0x0F = 0
      rw [BitVec.and_assoc]
      exact BitVec.and_zero
    all_goals exact hl
  · cases r
    case af => exact absurd rfl (h hw)
    all_goals rfl

theorem Effect.setIme (wf wsp : Bool) (s : State) (v : Bool) : Effect wf wsp true s (s.setIme v) :=
  .of_eq rfl rfl rfl rfl rfl id (fun _ => rfl) (fun _ => rfl) (fun h => by simp at h)

theorem Effect.setEiPending (wf wsp : Bool) (s : State) (v : Bool) : Effect wf wsp true s (s.setEiPending v) :=
  .of_eq rfl rfl rfl rfl rfl id (fun _ => rfl) (fun _ => rfl) (fun h => by simp at h)

theorem Effect.writeByte {wf wsp wie : Bool} {s t : State} {a : Word} {v : Byte} (h : writeByte s a v = .ok t) :
    Effect wf wsp wie s t := by
  rcases writeByte_ok h with rfl | ⟨rfl, hr, hs⟩
  · exact .refl _ _ _ _
  · exact ⟨rfl, rfl, rfl, .inl rfl, id, .more a v (.none _) hr hs, fun _ => rfl, fun _ => rfl, fun _ => ⟨rfl, rfl⟩⟩

theorem Effect.writeWord {wf wsp wie : Bool} {s t : State} {a v : Word} (h : writeWord s a v = .ok t) :
    Effect wf wsp wie s t := by
  unfold Machine.writeWord at h
  split at h
  · simp at h
  · next u hu => exact (Effect.writeByte hu).trans (.writeByte h)

theorem Effect.writeOpnd {wf wsp wie : Bool} {s t : State} {o : Opnd8} {v : Byte} (h : writeOpnd s o v = .ok t) :
    Effect wf wsp wie s t := by
  cases o with
  | reg r =>
    cases Except.ok.inj h
    exact .setReg8 _ _ _ _ _ _
  | atHl => exact .writeByte h

theorem Effect.push {wf wie : Bool} {s t : State} {v : Word} (h : push s v = .ok t) : Effect wf true wie s t := by
  unfold Machine.push at h
  split at h
  · simp at h
  · next u hu =>
    exact (Effect.setSp _ _ _ _).trans ((Effect.writeByte hu).trans ((Effect.setSp _ _ _ _).trans (.writeByte h)))

theorem Effect.pop {wf wie : Bool} {s : State} {x : Word × State} (h : pop s = .ok x) : Effect wf true wie s x.2 := by
  unfold Machine.pop at h
  split at h
  · simp at h
  · split at h
    · simp at h
    · cases Except.ok.inj h
      exact .setSp _ _ _ _

theorem Effect.callTo {wf wie : Bool} {s t : State} {target : Word} (h : callTo target s = .ok t) :
    Effect wf true wie s t := by
  unfold Machine.callTo at h
  cases hp : Machine.push s s.pc with
  | error e => simp [hp, Except.map] at h
  | ok u =>
    simp [hp, Except.map] at h
    subst h
    exact (Effect.push hp).trans (.setPc _ _ _ _ _)

theorem Effect.popPc {wf wie : Bool} {s t : State} (h : popPc s = .ok t) : Effect wf true wie s t := by
  unfold Machine.popPc at h
  cases hp : Machine.pop s with
  | error e => simp [hp, Except.map] at h
  | ok x =>
    simp [hp, Except.map] at h
    subst h
    exact (Effect.pop hp).trans (.setPc _ _ _ _ _)

/-! ### The shape of a meaning -/

/-- A meaning's answer from s is that of one instruction at this cost whose body has this effect. -/
def Shape (wf wsp wie : Bool) (out : Host.Outcome State Fault Refusal) (s : State) (cost : Nat) : Prop :=
  ∃ (len : Word) (body : State → Access State), out = runInstr len cost body s ∧
    ∀ t u, body t = .ok u → Effect wf wsp wie t u

theorem Shape.mono {wf wsp wie wf' wsp' wie' : Bool} {out : Host.Outcome State Fault Refusal} {s : State} {cost : Nat}
    (h : Shape wf wsp wie out s cost) (hf : wf' = false → wf = false) (hs : wsp' = false → wsp = false)
    (hi : wie' = false → wie = false) : Shape wf' wsp' wie' out s cost :=
  let ⟨len, body, h1, h2⟩ := h
  ⟨len, body, h1, fun t u hu => (h2 t u hu).mono hf hs hi⟩

theorem map_ok {α β : Type} {x : Access α} {f : α → β} {b : β} (h : x.map f = .ok b) : ∃ a, x = .ok a ∧ f a = b := by
  cases x with
  | error e => simp [Except.map] at h
  | ok a => exact ⟨a, rfl, Except.ok.inj h⟩

theorem loadImm8_shape (r n s) : Shape false false false (loadImm8 r n s) s 2 :=
  ⟨_, _, rfl, fun t u h => by cases Except.ok.inj h; exact .setReg8 _ _ _ _ _ _⟩

theorem storeImm8_shape (n s) : Shape false false false (storeImm8 n s) s 3 :=
  ⟨_, _, rfl, fun _ _ h => .writeByte h⟩

theorem storeA_shape (rr s) : Shape false false false (storeA rr s) s 2 :=
  ⟨_, _, rfl, fun _ _ h => .writeByte h⟩

theorem loadA_shape (rr s) : Shape false false false (loadA rr s) s 2 :=
  ⟨_, _, rfl, fun t u h => by obtain ⟨v, -, rfl⟩ := map_ok h; exact .setReg8 _ _ _ _ _ _⟩

theorem storeAStep_shape (d s) : Shape false false false (storeAStep d s) s 2 :=
  ⟨_, _, rfl, fun t u h => by
    obtain ⟨v, hv, rfl⟩ := map_ok h
    exact (Effect.writeByte hv).trans (.setReg16 _ _ _ (by simp))⟩

theorem loadAStep_shape (d s) : Shape false false false (loadAStep d s) s 2 :=
  ⟨_, _, rfl, fun t u h => by
    obtain ⟨v, -, rfl⟩ := map_ok h
    exact (Effect.setReg8 _ _ _ _ _ _).trans (.setReg16 _ _ _ (by simp))⟩

theorem moveReg8_shape (dst src s) : Shape false false false (moveReg8 dst src s) s 1 :=
  ⟨_, _, rfl, fun t u h => by cases Except.ok.inj h; exact .setReg8 _ _ _ _ _ _⟩

theorem loadFromHl_shape (dst s) : Shape false false false (loadFromHl dst s) s 2 :=
  ⟨_, _, rfl, fun t u h => by obtain ⟨v, -, rfl⟩ := map_ok h; exact .setReg8 _ _ _ _ _ _⟩

theorem storeReg8_shape (r s) : Shape false false false (storeReg8 r s) s 2 :=
  ⟨_, _, rfl, fun _ _ h => .writeByte h⟩

theorem storeAHigh_shape (n s) : Shape false false false (storeAHigh n s) s 3 :=
  ⟨_, _, rfl, fun _ _ h => .writeByte h⟩

theorem loadAHigh_shape (n s) : Shape false false false (loadAHigh n s) s 3 :=
  ⟨_, _, rfl, fun t u h => by obtain ⟨v, -, rfl⟩ := map_ok h; exact .setReg8 _ _ _ _ _ _⟩

theorem storeAAtC_shape (s) : Shape false false false (storeAAtC s) s 2 :=
  ⟨_, _, rfl, fun _ _ h => .writeByte h⟩

theorem loadAAtC_shape (s) : Shape false false false (loadAAtC s) s 2 :=
  ⟨_, _, rfl, fun t u h => by obtain ⟨v, -, rfl⟩ := map_ok h; exact .setReg8 _ _ _ _ _ _⟩

theorem storeAAbs_shape (nn s) : Shape false false false (storeAAbs nn s) s 4 :=
  ⟨_, _, rfl, fun _ _ h => .writeByte h⟩

theorem loadAAbs_shape (nn s) : Shape false false false (loadAAbs nn s) s 4 :=
  ⟨_, _, rfl, fun t u h => by obtain ⟨v, -, rfl⟩ := map_ok h; exact .setReg8 _ _ _ _ _ _⟩

theorem loadImm16_shape (r nn s) : Shape false (decide (r = .sp)) false (loadImm16 r nn s) s 3 :=
  ⟨_, _, rfl, fun t u h => by cases Except.ok.inj h; exact .setReg16 _ _ _ (by simp)⟩

theorem storeSp_shape (nn s) : Shape false false false (storeSp nn s) s 5 :=
  ⟨_, _, rfl, fun _ _ h => .writeWord h⟩

theorem loadSpHl_shape (s) : Shape false true false (loadSpHl s) s 2 :=
  ⟨_, _, rfl, fun t u h => by cases Except.ok.inj h; exact .setSp _ _ _ _⟩

theorem loadHlSp_shape (e s) : Shape true false false (loadHlSp e s) s 3 :=
  ⟨_, _, rfl, fun t u h => by
    cases Except.ok.inj h
    exact (Effect.setReg16 _ _ _ (by simp)).trans (.setFlags _ _ _ _ _ _ _)⟩

theorem pushPair_shape (r s) : Shape false true false (pushPair r s) s 4 :=
  ⟨_, _, rfl, fun _ _ h => .push h⟩

theorem popPair_shape (r s) : Shape (decide (r = .af)) true false (popPair r s) s 3 :=
  ⟨_, _, rfl, fun t u h => by
    obtain ⟨x, hx, rfl⟩ := map_ok h
    exact (Effect.pop hx).trans (.setStackReg _ _ _ (by simp))⟩

theorem inc8_shape (o s) : Shape true false false (inc8 o s) s (opndCost o 1 3) :=
  ⟨_, _, rfl, fun t u h => by
    split at h
    · simp at h
    · obtain ⟨v, hv, rfl⟩ := map_ok h
      exact (Effect.writeOpnd hv).trans (.setFlags _ _ _ _ _ _ _)⟩

theorem dec8_shape (o s) : Shape true false false (dec8 o s) s (opndCost o 1 3) :=
  ⟨_, _, rfl, fun t u h => by
    split at h
    · simp at h
    · obtain ⟨v, hv, rfl⟩ := map_ok h
      exact (Effect.writeOpnd hv).trans (.setFlags _ _ _ _ _ _ _)⟩

theorem Effect.setAlu (wsp wie : Bool) (s : State) (r : Result8) : Effect true wsp wie s (s.setAlu r) :=
  (Effect.setReg8 _ _ _ _ _ _).trans (.setFlags _ _ _ _ _ _ _)

theorem aluOpnd_shape (op o s) : Shape true false false (aluOpnd op o s) s (opndCost o 1 2) :=
  ⟨_, _, rfl, fun t u h => by obtain ⟨v, -, rfl⟩ := map_ok h; exact .setAlu _ _ _ _⟩

theorem aluImm_shape (op n s) : Shape true false false (aluImm op n s) s 2 :=
  ⟨_, _, rfl, fun t u h => by cases Except.ok.inj h; exact .setAlu _ _ _ _⟩

theorem decimalAdjust_shape (s) : Shape true false false (decimalAdjust s) s 1 :=
  ⟨_, _, rfl, fun t u h => by
    cases Except.ok.inj h
    exact (Effect.setReg8 _ _ _ _ _ _).trans (.setFlags _ _ _ _ _ _ _)⟩

theorem complementA_shape (s) : Shape true false false (complementA s) s 1 :=
  ⟨_, _, rfl, fun t u h => by
    cases Except.ok.inj h
    exact (Effect.setReg8 _ _ _ _ _ _).trans (.setFlags _ _ _ _ _ _ _)⟩

theorem setCarry_shape (s) : Shape true false false (setCarry s) s 1 :=
  ⟨_, _, rfl, fun t u h => by cases Except.ok.inj h; exact .setFlags _ _ _ _ _ _ _⟩

theorem complementCarry_shape (s) : Shape true false false (complementCarry s) s 1 :=
  ⟨_, _, rfl, fun t u h => by cases Except.ok.inj h; exact .setFlags _ _ _ _ _ _ _⟩

theorem inc16_shape (r s) : Shape false (decide (r = .sp)) false (inc16 r s) s 2 :=
  ⟨_, _, rfl, fun t u h => by cases Except.ok.inj h; exact .setReg16 _ _ _ (by simp)⟩

theorem dec16_shape (r s) : Shape false (decide (r = .sp)) false (dec16 r s) s 2 :=
  ⟨_, _, rfl, fun t u h => by cases Except.ok.inj h; exact .setReg16 _ _ _ (by simp)⟩

theorem addHl_shape (r s) : Shape true false false (addHl r s) s 2 :=
  ⟨_, _, rfl, fun t u h => by
    cases Except.ok.inj h
    exact (Effect.setReg16 _ _ _ (by simp)).trans (.setFlags _ _ _ _ _ _ _)⟩

theorem addSp_shape (e s) : Shape true true false (addSp e s) s 4 :=
  ⟨_, _, rfl, fun t u h => by
    cases Except.ok.inj h
    exact (Effect.setSp _ _ _ _).trans (.setFlags _ _ _ _ _ _ _)⟩

theorem rotateA_shape (op s) : Shape true false false (rotateA op s) s 1 :=
  ⟨_, _, rfl, fun t u h => by
    cases Except.ok.inj h
    exact (Effect.setReg8 _ _ _ _ _ _).trans (.setFlags _ _ _ _ _ _ _)⟩

theorem rotateOpnd_shape (op o s) : Shape true false false (rotateOpnd op o s) s (opndCost o 2 4) :=
  ⟨_, _, rfl, fun t u h => by
    split at h
    · simp at h
    · obtain ⟨v, hv, rfl⟩ := map_ok h
      exact (Effect.writeOpnd hv).trans (.setFlags _ _ _ _ _ _ _)⟩

theorem bitOpnd_shape (b o s) : Shape true false false (bitOpnd b o s) s (opndCost o 2 3) :=
  ⟨_, _, rfl, fun t u h => by obtain ⟨v, -, rfl⟩ := map_ok h; exact .setFlags _ _ _ _ _ _ _⟩

theorem resOpnd_shape (b o s) : Shape false false false (resOpnd b o s) s (opndCost o 2 4) :=
  ⟨_, _, rfl, fun t u h => by
    split at h
    · simp at h
    · exact .writeOpnd h⟩

theorem setOpnd_shape (b o s) : Shape false false false (setOpnd b o s) s (opndCost o 2 4) :=
  ⟨_, _, rfl, fun t u h => by
    split at h
    · simp at h
    · exact .writeOpnd h⟩

theorem jumpRel_shape (e s) : Shape false false false (jumpRel e s) s 3 :=
  ⟨_, _, rfl, fun t u h => by cases Except.ok.inj h; exact .setPc _ _ _ _ _⟩

theorem jumpRelIf_shape (cc e s) :
    Shape false false false (jumpRelIf cc e s) s (condCost s.params (s.cond cc) 3 2) :=
  ⟨_, _, rfl, fun t u h => by
    cases Except.ok.inj h
    split
    · exact .setPc _ _ _ _ _
    · exact .refl _ _ _ _⟩

theorem jumpAbs_shape (nn s) : Shape false false false (jumpAbs nn s) s 4 :=
  ⟨_, _, rfl, fun t u h => by cases Except.ok.inj h; exact .setPc _ _ _ _ _⟩

theorem jumpAbsIf_shape (cc nn s) :
    Shape false false false (jumpAbsIf cc nn s) s (condCost s.params (s.cond cc) 4 3) :=
  ⟨_, _, rfl, fun t u h => by
    cases Except.ok.inj h
    split
    · exact .setPc _ _ _ _ _
    · exact .refl _ _ _ _⟩

theorem jumpHl_shape (s) : Shape false false false (jumpHl s) s 1 :=
  ⟨_, _, rfl, fun t u h => by cases Except.ok.inj h; exact .setPc _ _ _ _ _⟩

theorem callAbs_shape (nn s) : Shape false true false (callAbs nn s) s 6 :=
  ⟨_, _, rfl, fun _ _ h => .callTo h⟩

theorem callAbsIf_shape (cc nn s) :
    Shape false true false (callAbsIf cc nn s) s (condCost s.params (s.cond cc) 6 3) :=
  ⟨_, _, rfl, fun t u h => by
    split at h
    · exact .callTo h
    · cases Except.ok.inj h
      exact .refl _ _ _ _⟩

theorem returnPop_shape (s) : Shape false true false (returnPop s) s 4 :=
  ⟨_, _, rfl, fun _ _ h => .popPc h⟩

theorem returnIf_shape (cc s) : Shape false true false (returnIf cc s) s (condCost s.params (s.cond cc) 5 2) :=
  ⟨_, _, rfl, fun t u h => by
    split at h
    · exact .popPc h
    · cases Except.ok.inj h
      exact .refl _ _ _ _⟩

theorem returnEnable_shape (s) : Shape false true true (returnEnable s) s 4 :=
  ⟨_, _, rfl, fun t u h => by
    obtain ⟨v, hv, rfl⟩ := map_ok h
    exact (Effect.popPc hv).trans (.setIme _ _ _ _)⟩

theorem restart_shape (y s) : Shape false true false (restart y s) s 4 :=
  ⟨_, _, rfl, fun _ _ h => .callTo h⟩

theorem noOperation_shape (s) : Shape false false false (noOperation s) s 1 :=
  ⟨_, _, rfl, fun t u h => by cases Except.ok.inj h; exact .refl _ _ _ _⟩

theorem stopRun_shape (s) : Shape false false false (stopRun s) s 1 :=
  ⟨_, _, rfl, fun t u h => by
    cases Except.ok.inj h
    exact ⟨rfl, rfl, rfl, .inr (.inl rfl), id, .none _, fun _ => rfl, fun _ => rfl, fun _ => ⟨rfl, rfl⟩⟩⟩

theorem haltRun_shape (s) : Shape false false false (haltRun s) s 1 :=
  ⟨_, _, rfl, fun t u h => by
    cases Except.ok.inj h
    exact ⟨rfl, rfl, rfl, .inr (.inr rfl), id, .none _, fun _ => rfl, fun _ => rfl, fun _ => ⟨rfl, rfl⟩⟩⟩

theorem disableInterrupts_shape (s) : Shape false false true (disableInterrupts s) s 1 :=
  ⟨_, _, rfl, fun t u h => by
    cases Except.ok.inj h
    exact (Effect.setIme _ _ _ _).trans (.setEiPending _ _ _ _)⟩

theorem enableInterrupts_shape (s) : Shape false false true (enableInterrupts s) s 1 :=
  ⟨_, _, rfl, fun t u h => by cases Except.ok.inj h; exact .setEiPending _ _ _ _⟩

theorem runInvalid_shape (wf wsp wie code s) : Shape wf wsp wie (runInvalid code s) s s.params.invalidCycles :=
  ⟨_, _, rfl, fun t u h => by
    split at h
    · simp at h
    · cases Except.ok.inj h
      exact .refl _ _ _ _⟩

end Sys2Proof.Machine
end

