-- ==== Sys2Proof/Laws/Exec.lean ====
section
/-! SUPPORT. exec on the groups of instructions named by their fields, and the shape of every instruction's meaning. -/

namespace Sys2Proof.Machine

/-! ### exec by fields -/

@[simp] theorem exec_ofLdImm8_reg (r : Reg8) (n : Byte) (s : State) :
    exec (.ofLdImm8 (.reg r) n) s = loadImm8 r n s := by
  cases r <;> rfl

@[simp] theorem exec_ofLdImm8_atHl (n : Byte) (s : State) : exec (.ofLdImm8 .atHl n) s = storeImm8 n s := rfl

@[simp] theorem exec_ofLdReg (dst src : Reg8) (s : State) : exec (.ofLdReg dst src) s = moveReg8 dst src s := by
  cases dst <;> cases src <;> rfl

@[simp] theorem exec_ofLdFromHl (dst : Reg8) (s : State) : exec (.ofLdFromHl dst) s = loadFromHl dst s := by
  cases dst <;> rfl

@[simp] theorem exec_ofLdToHl (r : Reg8) (s : State) : exec (.ofLdToHl r) s = storeReg8 r s := by
  cases r <;> rfl

@[simp] theorem exec_ofInc (o : Opnd8) (s : State) : exec (.ofInc o) s = inc8 o s := by
  rcases o with ⟨⟨⟩⟩ | _ <;> rfl

@[simp] theorem exec_ofDec (o : Opnd8) (s : State) : exec (.ofDec o) s = dec8 o s := by
  rcases o with ⟨⟨⟩⟩ | _ <;> rfl

@[simp] theorem exec_ofAlu (op : AluOp) (o : Opnd8) (s : State) : exec (.ofAlu op o) s = aluOpnd op o s := by
  cases op <;> rcases o with ⟨⟨⟩⟩ | _ <;> rfl

@[simp] theorem exec_ofAluImm (op : AluOp) (n : Byte) (s : State) : exec (.ofAluImm op n) s = aluImm op n s := by
  cases op <;> rfl

@[simp] theorem exec_ofLdImm16 (r : Reg16) (nn : Word) (s : State) : exec (.ofLdImm16 r nn) s = loadImm16 r nn s := by
  cases r <;> rfl

@[simp] theorem exec_ofInc16 (r : Reg16) (s : State) : exec (.ofInc16 r) s = inc16 r s := by
  cases r <;> rfl

@[simp] theorem exec_ofDec16 (r : Reg16) (s : State) : exec (.ofDec16 r) s = dec16 r s := by
  cases r <;> rfl

@[simp] theorem exec_ofAddHl (r : Reg16) (s : State) : exec (.ofAddHl r) s = addHl r s := by
  cases r <;> rfl

@[simp] theorem exec_ofPush (r : StackReg) (s : State) : exec (.ofPush r) s = pushPair r s := by
  cases r <;> rfl

@[simp] theorem exec_ofPop (r : StackReg) (s : State) : exec (.ofPop r) s = popPair r s := by
  cases r <;> rfl

@[simp] theorem exec_ofJrCc (cc : Cond) (e : Byte) (s : State) : exec (.ofJrCc cc e) s = jumpRelIf cc e s := by
  cases cc <;> rfl

@[simp] theorem exec_ofJpCc (cc : Cond) (nn : Word) (s : State) : exec (.ofJpCc cc nn) s = jumpAbsIf cc nn s := by
  cases cc <;> rfl

@[simp] theorem exec_ofCallCc (cc : Cond) (nn : Word) (s : State) : exec (.ofCallCc cc nn) s = callAbsIf cc nn s := by
  cases cc <;> rfl

@[simp] theorem exec_ofRetCc (cc : Cond) (s : State) : exec (.ofRetCc cc) s = returnIf cc s := by
  cases cc <;> rfl

@[simp] theorem exec_ofRst (y : Idx8) (s : State) : exec (.ofRst y) s = restart y s := by
  cases y <;> rfl

@[simp] theorem exec_ofRot (op : RotOp) (o : Opnd8) (s : State) : exec (.ofRot op o) s = rotateOpnd op o s := by
  cases op <;> rcases o with ⟨⟨⟩⟩ | _ <;> rfl

@[simp] theorem exec_ofBit (b : Idx8) (o : Opnd8) (s : State) : exec (.ofBit b o) s = bitOpnd b o s := by
  cases b <;> rcases o with ⟨⟨⟩⟩ | _ <;> rfl

@[simp] theorem exec_ofRes (b : Idx8) (o : Opnd8) (s : State) : exec (.ofRes b o) s = resOpnd b o s := by
  cases b <;> rcases o with ⟨⟨⟩⟩ | _ <;> rfl

@[simp] theorem exec_ofSet (b : Idx8) (o : Opnd8) (s : State) : exec (.ofSet b o) s = setOpnd b o s := by
  cases b <;> rcases o with ⟨⟨⟩⟩ | _ <;> rfl

/-! ### exec on the instructions that stand alone -/

@[simp] theorem exec_nop (s : State) : exec .nop s = noOperation s := rfl
@[simp] theorem exec_ldAtBcA (s : State) : exec .ldAtBcA s = storeA .bc s := rfl
@[simp] theorem exec_rlca (s : State) : exec .rlca s = rotateA .rlc s := rfl
@[simp] theorem exec_ldAtA16Sp (nn : Word) (s : State) : exec (.ldAtA16Sp nn) s = storeSp nn s := rfl
@[simp] theorem exec_ldAAtBc (s : State) : exec .ldAAtBc s = loadA .bc s := rfl
@[simp] theorem exec_rrca (s : State) : exec .rrca s = rotateA .rrc s := rfl
@[simp] theorem exec_stop (s : State) : exec .stop s = stopRun s := rfl
@[simp] theorem exec_ldAtDeA (s : State) : exec .ldAtDeA s = storeA .de s := rfl
@[simp] theorem exec_rla (s : State) : exec .rla s = rotateA .rl s := rfl
@[simp] theorem exec_jrE8 (e : Byte) (s : State) : exec (.jrE8 e) s = jumpRel e s := rfl
@[simp] theorem exec_ldAAtDe (s : State) : exec .ldAAtDe s = loadA .de s := rfl
@[simp] theorem exec_rra (s : State) : exec .rra s = rotateA .rr s := rfl
@[simp] theorem exec_ldAtHlIncA (s : State) : exec .ldAtHlIncA s = storeAStep 1 s := rfl
@[simp] theorem exec_daa (s : State) : exec .daa s = decimalAdjust s := rfl
@[simp] theorem exec_ldAAtHlInc (s : State) : exec .ldAAtHlInc s = loadAStep 1 s := rfl
@[simp] theorem exec_cpl (s : State) : exec .cpl s = complementA s := rfl
@[simp] theorem exec_ldAtHlDecA (s : State) : exec .ldAtHlDecA s = storeAStep (-1) s := rfl
@[simp] theorem exec_scf (s : State) : exec .scf s = setCarry s := rfl
@[simp] theorem exec_ldAAtHlDec (s : State) : exec .ldAAtHlDec s = loadAStep (-1) s := rfl
@[simp] theorem exec_ccf (s : State) : exec .ccf s = complementCarry s := rfl
@[simp] theorem exec_halt (s : State) : exec .halt s = haltRun s := rfl
@[simp] theorem exec_jpA16 (nn : Word) (s : State) : exec (.jpA16 nn) s = jumpAbs nn s := rfl
@[simp] theorem exec_ret (s : State) : exec .ret s = returnPop s := rfl
@[simp] theorem exec_callA16 (nn : Word) (s : State) : exec (.callA16 nn) s = callAbs nn s := rfl
@[simp] theorem exec_invalid (code : Word) (s : State) : exec (.invalid code) s = runInvalid code s := rfl
@[simp] theorem exec_reti (s : State) : exec .reti s = returnEnable s := rfl
@[simp] theorem exec_ldhAtA8A (n : Byte) (s : State) : exec (.ldhAtA8A n) s = storeAHigh n s := rfl
@[simp] theorem exec_ldAtCA (s : State) : exec .ldAtCA s = storeAAtC s := rfl
@[simp] theorem exec_addSpE8 (e : Byte) (s : State) : exec (.addSpE8 e) s = addSp e s := rfl
@[simp] theorem exec_jpHl (s : State) : exec .jpHl s = jumpHl s := rfl
@[simp] theorem exec_ldAtA16A (nn : Word) (s : State) : exec (.ldAtA16A nn) s = storeAAbs nn s := rfl
@[simp] theorem exec_ldhAAtA8 (n : Byte) (s : State) : exec (.ldhAAtA8 n) s = loadAHigh n s := rfl
@[simp] theorem exec_ldAAtC (s : State) : exec .ldAAtC s = loadAAtC s := rfl
@[simp] theorem exec_di (s : State) : exec .di s = disableInterrupts s := rfl
@[simp] theorem exec_ldHlSpE8 (e : Byte) (s : State) : exec (.ldHlSpE8 e) s = loadHlSp e s := rfl
@[simp] theorem exec_ldSpHl (s : State) : exec .ldSpHl s = loadSpHl s := rfl
@[simp] theorem exec_ldAAtA16 (nn : Word) (s : State) : exec (.ldAAtA16 nn) s = loadAAbs nn s := rfl
@[simp] theorem exec_ei (s : State) : exec .ei s = enableInterrupts s := rfl

/-! ### The shape of every meaning -/

/-- The step of one instruction: its cost by the grids of R357, and what its body may write by R25, R28 and R32. -/
abbrev ShapeOf (i : Instr) (s : State) : Prop :=
  Shape (writesFlags i) (writesSp i) (writesInterruptEnable i) (exec i s) s (chargeOf s i)

/-- Every instruction but the escape is one runInstr, at the cost of the grids and with no effect its rule does not name. -/
theorem exec_shape (i : Instr) (hi : i ≠ .prefixCb) (s : State) : ShapeOf i s :=
  match i, hi with
  | .nop, _ => noOperation_shape s
  | .ldBcD16 nn, _ => loadImm16_shape .bc nn s
  | .ldAtBcA, _ => storeA_shape .bc s
  | .incBc, _ => inc16_shape .bc s
  | .incB, _ => inc8_shape (.reg .b) s
  | .decB, _ => dec8_shape (.reg .b) s
  | .ldBD8 n, _ => loadImm8_shape .b n s
  | .rlca, _ => rotateA_shape .rlc s
  | .ldAtA16Sp nn, _ => storeSp_shape nn s
  | .addHlBc, _ => addHl_shape .bc s
  | .ldAAtBc, _ => loadA_shape .bc s
  | .decBc, _ => dec16_shape .bc s
  | .incC, _ => inc8_shape (.reg .c) s
  | .decC, _ => dec8_shape (.reg .c) s
  | .ldCD8 n, _ => loadImm8_shape .c n s
  | .rrca, _ => rotateA_shape .rrc s
  | .stop, _ => stopRun_shape s
  | .ldDeD16 nn, _ => loadImm16_shape .de nn s
  | .ldAtDeA, _ => storeA_shape .de s
  | .incDe, _ => inc16_shape .de s
  | .incD, _ => inc8_shape (.reg .d) s
  | .decD, _ => dec8_shape (.reg .d) s
  | .ldDD8 n, _ => loadImm8_shape .d n s
  | .rla, _ => rotateA_shape .rl s
  | .jrE8 e, _ => jumpRel_shape e s
  | .addHlDe, _ => addHl_shape .de s
  | .ldAAtDe, _ => loadA_shape .de s
  | .decDe, _ => dec16_shape .de s
  | .incE, _ => inc8_shape (.reg .e) s
  | .decE, _ => dec8_shape (.reg .e) s
  | .ldED8 n, _ => loadImm8_shape .e n s
  | .rra, _ => rotateA_shape .rr s
  | .jrNzE8 e, _ => jumpRelIf_shape .nz e s
  | .ldHlD16 nn, _ => loadImm16_shape .hl nn s
  | .ldAtHlIncA, _ => storeAStep_shape 1 s
  | .incHl, _ => inc16_shape .hl s
  | .incH, _ => inc8_shape (.reg .h) s
  | .decH, _ => dec8_shape (.reg .h) s
  | .ldHD8 n, _ => loadImm8_shape .h n s
  | .daa, _ => decimalAdjust_shape s
  | .jrZE8 e, _ => jumpRelIf_shape .z e s
  | .addHlHl, _ => addHl_shape .hl s
  | .ldAAtHlInc, _ => loadAStep_shape 1 s
  | .decHl, _ => dec16_shape .hl s
  | .incL, _ => inc8_shape (.reg .l) s
  | .decL, _ => dec8_shape (.reg .l) s
  | .ldLD8 n, _ => loadImm8_shape .l n s
  | .cpl, _ => complementA_shape s
  | .jrNcE8 e, _ => jumpRelIf_shape .nc e s
  | .ldSpD16 nn, _ => loadImm16_shape .sp nn s
  | .ldAtHlDecA, _ => storeAStep_shape (-1) s
  | .incSp, _ => inc16_shape .sp s
  | .incAtHl, _ => inc8_shape .atHl s
  | .decAtHl, _ => dec8_shape .atHl s
  | .ldAtHlD8 n, _ => storeImm8_shape n s
  | .scf, _ => setCarry_shape s
  | .jrCE8 e, _ => jumpRelIf_shape .c e s
  | .addHlSp, _ => addHl_shape .sp s
  | .ldAAtHlDec, _ => loadAStep_shape (-1) s
  | .decSp, _ => dec16_shape .sp s
  | .incA, _ => inc8_shape (.reg .a) s
  | .decA, _ => dec8_shape (.reg .a) s
  | .ldAD8 n, _ => loadImm8_shape .a n s
  | .ccf, _ => complementCarry_shape s
  | .ldBB, _ => moveReg8_shape .b .b s
  | .ldBC, _ => moveReg8_shape .b .c s
  | .ldBD, _ => moveReg8_shape .b .d s
  | .ldBE, _ => moveReg8_shape .b .e s
  | .ldBH, _ => moveReg8_shape .b .h s
  | .ldBL, _ => moveReg8_shape .b .l s
  | .ldBAtHl, _ => loadFromHl_shape .b s
  | .ldBA, _ => moveReg8_shape .b .a s
  | .ldCB, _ => moveReg8_shape .c .b s
  | .ldCC, _ => moveReg8_shape .c .c s
  | .ldCD, _ => moveReg8_shape .c .d s
  | .ldCE, _ => moveReg8_shape .c .e s
  | .ldCH, _ => moveReg8_shape .c .h s
  | .ldCL, _ => moveReg8_shape .c .l s
  | .ldCAtHl, _ => loadFromHl_shape .c s
  | .ldCA, _ => moveReg8_shape .c .a s
  | .ldDB, _ => moveReg8_shape .d .b s
  | .ldDC, _ => moveReg8_shape .d .c s
  | .ldDD, _ => moveReg8_shape .d .d s
  | .ldDE, _ => moveReg8_shape .d .e s
  | .ldDH, _ => moveReg8_shape .d .h s
  | .ldDL, _ => moveReg8_shape .d .l s
  | .ldDAtHl, _ => loadFromHl_shape .d s
  | .ldDA, _ => moveReg8_shape .d .a s
  | .ldEB, _ => moveReg8_shape .e .b s
  | .ldEC, _ => moveReg8_shape .e .c s
  | .ldED, _ => moveReg8_shape .e .d s
  | .ldEE, _ => moveReg8_shape .e .e s
  | .ldEH, _ => moveReg8_shape .e .h s
  | .ldEL, _ => moveReg8_shape .e .l s
  | .ldEAtHl, _ => loadFromHl_shape .e s
  | .ldEA, _ => moveReg8_shape .e .a s
  | .ldHB, _ => moveReg8_shape .h .b s
  | .ldHC, _ => moveReg8_shape .h .c s
  | .ldHD, _ => moveReg8_shape .h .d s
  | .ldHE, _ => moveReg8_shape .h .e s
  | .ldHH, _ => moveReg8_shape .h .h s
  | .ldHL, _ => moveReg8_shape .h .l s
  | .ldHAtHl, _ => loadFromHl_shape .h s
  | .ldHA, _ => moveReg8_shape .h .a s
  | .ldLB, _ => moveReg8_shape .l .b s
  | .ldLC, _ => moveReg8_shape .l .c s
  | .ldLD, _ => moveReg8_shape .l .d s
  | .ldLE, _ => moveReg8_shape .l .e s
  | .ldLH, _ => moveReg8_shape .l .h s
  | .ldLL, _ => moveReg8_shape .l .l s
  | .ldLAtHl, _ => loadFromHl_shape .l s
  | .ldLA, _ => moveReg8_shape .l .a s
  | .ldAtHlB, _ => storeReg8_shape .b s
  | .ldAtHlC, _ => storeReg8_shape .c s
  | .ldAtHlD, _ => storeReg8_shape .d s
  | .ldAtHlE, _ => storeReg8_shape .e s
  | .ldAtHlH, _ => storeReg8_shape .h s
  | .ldAtHlL, _ => storeReg8_shape .l s
  | .halt, _ => haltRun_shape s
  | .ldAtHlA, _ => storeReg8_shape .a s
  | .ldAB, _ => moveReg8_shape .a .b s
  | .ldAC, _ => moveReg8_shape .a .c s
  | .ldAD, _ => moveReg8_shape .a .d s
  | .ldAE, _ => moveReg8_shape .a .e s
  | .ldAH, _ => moveReg8_shape .a .h s
  | .ldAL, _ => moveReg8_shape .a .l s
  | .ldAAtHl, _ => loadFromHl_shape .a s
  | .ldAA, _ => moveReg8_shape .a .a s
  | .addAB, _ => aluOpnd_shape .add (.reg .b) s
  | .addAC, _ => aluOpnd_shape .add (.reg .c) s
  | .addAD, _ => aluOpnd_shape .add (.reg .d) s
  | .addAE, _ => aluOpnd_shape .add (.reg .e) s
  | .addAH, _ => aluOpnd_shape .add (.reg .h) s
  | .addAL, _ => aluOpnd_shape .add (.reg .l) s
  | .addAAtHl, _ => aluOpnd_shape .add .atHl s
  | .addAA, _ => aluOpnd_shape .add (.reg .a) s
  | .adcAB, _ => aluOpnd_shape .adc (.reg .b) s
  | .adcAC, _ => aluOpnd_shape .adc (.reg .c) s
  | .adcAD, _ => aluOpnd_shape .adc (.reg .d) s
  | .adcAE, _ => aluOpnd_shape .adc (.reg .e) s
  | .adcAH, _ => aluOpnd_shape .adc (.reg .h) s
  | .adcAL, _ => aluOpnd_shape .adc (.reg .l) s
  | .adcAAtHl, _ => aluOpnd_shape .adc .atHl s
  | .adcAA, _ => aluOpnd_shape .adc (.reg .a) s
  | .subB, _ => aluOpnd_shape .sub (.reg .b) s
  | .subC, _ => aluOpnd_shape .sub (.reg .c) s
  | .subD, _ => aluOpnd_shape .sub (.reg .d) s
  | .subE, _ => aluOpnd_shape .sub (.reg .e) s
  | .subH, _ => aluOpnd_shape .sub (.reg .h) s
  | .subL, _ => aluOpnd_shape .sub (.reg .l) s
  | .subAtHl, _ => aluOpnd_shape .sub .atHl s
  | .subA, _ => aluOpnd_shape .sub (.reg .a) s
  | .sbcAB, _ => aluOpnd_shape .sbc (.reg .b) s
  | .sbcAC, _ => aluOpnd_shape .sbc (.reg .c) s
  | .sbcAD, _ => aluOpnd_shape .sbc (.reg .d) s
  | .sbcAE, _ => aluOpnd_shape .sbc (.reg .e) s
  | .sbcAH, _ => aluOpnd_shape .sbc (.reg .h) s
  | .sbcAL, _ => aluOpnd_shape .sbc (.reg .l) s
  | .sbcAAtHl, _ => aluOpnd_shape .sbc .atHl s
  | .sbcAA, _ => aluOpnd_shape .sbc (.reg .a) s
  | .andB, _ => aluOpnd_shape .and (.reg .b) s
  | .andC, _ => aluOpnd_shape .and (.reg .c) s
  | .andD, _ => aluOpnd_shape .and (.reg .d) s
  | .andE, _ => aluOpnd_shape .and (.reg .e) s
  | .andH, _ => aluOpnd_shape .and (.reg .h) s
  | .andL, _ => aluOpnd_shape .and (.reg .l) s
  | .andAtHl, _ => aluOpnd_shape .and .atHl s
  | .andA, _ => aluOpnd_shape .and (.reg .a) s
  | .xorB, _ => aluOpnd_shape .xor (.reg .b) s
  | .xorC, _ => aluOpnd_shape .xor (.reg .c) s
  | .xorD, _ => aluOpnd_shape .xor (.reg .d) s
  | .xorE, _ => aluOpnd_shape .xor (.reg .e) s
  | .xorH, _ => aluOpnd_shape .xor (.reg .h) s
  | .xorL, _ => aluOpnd_shape .xor (.reg .l) s
  | .xorAtHl, _ => aluOpnd_shape .xor .atHl s
  | .xorA, _ => aluOpnd_shape .xor (.reg .a) s
  | .orB, _ => aluOpnd_shape .or (.reg .b) s
  | .orC, _ => aluOpnd_shape .or (.reg .c) s
  | .orD, _ => aluOpnd_shape .or (.reg .d) s
  | .orE, _ => aluOpnd_shape .or (.reg .e) s
  | .orH, _ => aluOpnd_shape .or (.reg .h) s
  | .orL, _ => aluOpnd_shape .or (.reg .l) s
  | .orAtHl, _ => aluOpnd_shape .or .atHl s
  | .orA, _ => aluOpnd_shape .or (.reg .a) s
  | .cpB, _ => aluOpnd_shape .cp (.reg .b) s
  | .cpC, _ => aluOpnd_shape .cp (.reg .c) s
  | .cpD, _ => aluOpnd_shape .cp (.reg .d) s
  | .cpE, _ => aluOpnd_shape .cp (.reg .e) s
  | .cpH, _ => aluOpnd_shape .cp (.reg .h) s
  | .cpL, _ => aluOpnd_shape .cp (.reg .l) s
  | .cpAtHl, _ => aluOpnd_shape .cp .atHl s
  | .cpA, _ => aluOpnd_shape .cp (.reg .a) s
  | .retNz, _ => returnIf_shape .nz s
  | .popBc, _ => popPair_shape .bc s
  | .jpNzA16 nn, _ => jumpAbsIf_shape .nz nn s
  | .jpA16 nn, _ => jumpAbs_shape nn s
  | .callNzA16 nn, _ => callAbsIf_shape .nz nn s
  | .pushBc, _ => pushPair_shape .bc s
  | .addAD8 n, _ => aluImm_shape .add n s
  | .rst00, _ => restart_shape .i0 s
  | .retZ, _ => returnIf_shape .z s
  | .ret, _ => returnPop_shape s
  | .jpZA16 nn, _ => jumpAbsIf_shape .z nn s
  | .prefixCb, hi => absurd rfl hi
  | .callZA16 nn, _ => callAbsIf_shape .z nn s
  | .callA16 nn, _ => callAbs_shape nn s
  | .adcAD8 n, _ => aluImm_shape .adc n s
  | .rst08, _ => restart_shape .i1 s
  | .retNc, _ => returnIf_shape .nc s
  | .popDe, _ => popPair_shape .de s
  | .jpNcA16 nn, _ => jumpAbsIf_shape .nc nn s
  | .invalid code, _ => runInvalid_shape _ _ _ code s
  | .callNcA16 nn, _ => callAbsIf_shape .nc nn s
  | .pushDe, _ => pushPair_shape .de s
  | .subD8 n, _ => aluImm_shape .sub n s
  | .rst10, _ => restart_shape .i2 s
  | .retC, _ => returnIf_shape .c s
  | .reti, _ => returnEnable_shape s
  | .jpCA16 nn, _ => jumpAbsIf_shape .c nn s
  | .callCA16 nn, _ => callAbsIf_shape .c nn s
  | .sbcAD8 n, _ => aluImm_shape .sbc n s
  | .rst18, _ => restart_shape .i3 s
  | .ldhAtA8A n, _ => storeAHigh_shape n s
  | .popHl, _ => popPair_shape .hl s
  | .ldAtCA, _ => storeAAtC_shape s
  | .pushHl, _ => pushPair_shape .hl s
  | .andD8 n, _ => aluImm_shape .and n s
  | .rst20, _ => restart_shape .i4 s
  | .addSpE8 e, _ => addSp_shape e s
  | .jpHl, _ => jumpHl_shape s
  | .ldAtA16A nn, _ => storeAAbs_shape nn s
  | .xorD8 n, _ => aluImm_shape .xor n s
  | .rst28, _ => restart_shape .i5 s
  | .ldhAAtA8 n, _ => loadAHigh_shape n s
  | .popAf, _ => popPair_shape .af s
  | .ldAAtC, _ => loadAAtC_shape s
  | .di, _ => disableInterrupts_shape s
  | .pushAf, _ => pushPair_shape .af s
  | .orD8 n, _ => aluImm_shape .or n s
  | .rst30, _ => restart_shape .i6 s
  | .ldHlSpE8 e, _ => loadHlSp_shape e s
  | .ldSpHl, _ => loadSpHl_shape s
  | .ldAAtA16 nn, _ => loadAAbs_shape nn s
  | .ei, _ => enableInterrupts_shape s
  | .cpD8 n, _ => aluImm_shape .cp n s
  | .rst38, _ => restart_shape .i7 s
  | .rlcB, _ => rotateOpnd_shape .rlc (.reg .b) s
  | .rlcC, _ => rotateOpnd_shape .rlc (.reg .c) s
  | .rlcD, _ => rotateOpnd_shape .rlc (.reg .d) s
  | .rlcE, _ => rotateOpnd_shape .rlc (.reg .e) s
  | .rlcH, _ => rotateOpnd_shape .rlc (.reg .h) s
  | .rlcL, _ => rotateOpnd_shape .rlc (.reg .l) s
  | .rlcAtHl, _ => rotateOpnd_shape .rlc .atHl s
  | .rlcA, _ => rotateOpnd_shape .rlc (.reg .a) s
  | .rrcB, _ => rotateOpnd_shape .rrc (.reg .b) s
  | .rrcC, _ => rotateOpnd_shape .rrc (.reg .c) s
  | .rrcD, _ => rotateOpnd_shape .rrc (.reg .d) s
  | .rrcE, _ => rotateOpnd_shape .rrc (.reg .e) s
  | .rrcH, _ => rotateOpnd_shape .rrc (.reg .h) s
  | .rrcL, _ => rotateOpnd_shape .rrc (.reg .l) s
  | .rrcAtHl, _ => rotateOpnd_shape .rrc .atHl s
  | .rrcA, _ => rotateOpnd_shape .rrc (.reg .a) s
  | .rlB, _ => rotateOpnd_shape .rl (.reg .b) s
  | .rlC, _ => rotateOpnd_shape .rl (.reg .c) s
  | .rlD, _ => rotateOpnd_shape .rl (.reg .d) s
  | .rlE, _ => rotateOpnd_shape .rl (.reg .e) s
  | .rlH, _ => rotateOpnd_shape .rl (.reg .h) s
  | .rlL, _ => rotateOpnd_shape .rl (.reg .l) s
  | .rlAtHl, _ => rotateOpnd_shape .rl .atHl s
  | .rlA, _ => rotateOpnd_shape .rl (.reg .a) s
  | .rrB, _ => rotateOpnd_shape .rr (.reg .b) s
  | .rrC, _ => rotateOpnd_shape .rr (.reg .c) s
  | .rrD, _ => rotateOpnd_shape .rr (.reg .d) s
  | .rrE, _ => rotateOpnd_shape .rr (.reg .e) s
  | .rrH, _ => rotateOpnd_shape .rr (.reg .h) s
  | .rrL, _ => rotateOpnd_shape .rr (.reg .l) s
  | .rrAtHl, _ => rotateOpnd_shape .rr .atHl s
  | .rrA, _ => rotateOpnd_shape .rr (.reg .a) s
  | .slaB, _ => rotateOpnd_shape .sla (.reg .b) s
  | .slaC, _ => rotateOpnd_shape .sla (.reg .c) s
  | .slaD, _ => rotateOpnd_shape .sla (.reg .d) s
  | .slaE, _ => rotateOpnd_shape .sla (.reg .e) s
  | .slaH, _ => rotateOpnd_shape .sla (.reg .h) s
  | .slaL, _ => rotateOpnd_shape .sla (.reg .l) s
  | .slaAtHl, _ => rotateOpnd_shape .sla .atHl s
  | .slaA, _ => rotateOpnd_shape .sla (.reg .a) s
  | .sraB, _ => rotateOpnd_shape .sra (.reg .b) s
  | .sraC, _ => rotateOpnd_shape .sra (.reg .c) s
  | .sraD, _ => rotateOpnd_shape .sra (.reg .d) s
  | .sraE, _ => rotateOpnd_shape .sra (.reg .e) s
  | .sraH, _ => rotateOpnd_shape .sra (.reg .h) s
  | .sraL, _ => rotateOpnd_shape .sra (.reg .l) s
  | .sraAtHl, _ => rotateOpnd_shape .sra .atHl s
  | .sraA, _ => rotateOpnd_shape .sra (.reg .a) s
  | .swapB, _ => rotateOpnd_shape .swap (.reg .b) s
  | .swapC, _ => rotateOpnd_shape .swap (.reg .c) s
  | .swapD, _ => rotateOpnd_shape .swap (.reg .d) s
  | .swapE, _ => rotateOpnd_shape .swap (.reg .e) s
  | .swapH, _ => rotateOpnd_shape .swap (.reg .h) s
  | .swapL, _ => rotateOpnd_shape .swap (.reg .l) s
  | .swapAtHl, _ => rotateOpnd_shape .swap .atHl s
  | .swapA, _ => rotateOpnd_shape .swap (.reg .a) s
  | .srlB, _ => rotateOpnd_shape .srl (.reg .b) s
  | .srlC, _ => rotateOpnd_shape .srl (.reg .c) s
  | .srlD, _ => rotateOpnd_shape .srl (.reg .d) s
  | .srlE, _ => rotateOpnd_shape .srl (.reg .e) s
  | .srlH, _ => rotateOpnd_shape .srl (.reg .h) s
  | .srlL, _ => rotateOpnd_shape .srl (.reg .l) s
  | .srlAtHl, _ => rotateOpnd_shape .srl .atHl s
  | .srlA, _ => rotateOpnd_shape .srl (.reg .a) s
  | .bit0B, _ => bitOpnd_shape .i0 (.reg .b) s
  | .bit0C, _ => bitOpnd_shape .i0 (.reg .c) s
  | .bit0D, _ => bitOpnd_shape .i0 (.reg .d) s
  | .bit0E, _ => bitOpnd_shape .i0 (.reg .e) s
  | .bit0H, _ => bitOpnd_shape .i0 (.reg .h) s
  | .bit0L, _ => bitOpnd_shape .i0 (.reg .l) s
  | .bit0AtHl, _ => bitOpnd_shape .i0 .atHl s
  | .bit0A, _ => bitOpnd_shape .i0 (.reg .a) s
  | .bit1B, _ => bitOpnd_shape .i1 (.reg .b) s
  | .bit1C, _ => bitOpnd_shape .i1 (.reg .c) s
  | .bit1D, _ => bitOpnd_shape .i1 (.reg .d) s
  | .bit1E, _ => bitOpnd_shape .i1 (.reg .e) s
  | .bit1H, _ => bitOpnd_shape .i1 (.reg .h) s
  | .bit1L, _ => bitOpnd_shape .i1 (.reg .l) s
  | .bit1AtHl, _ => bitOpnd_shape .i1 .atHl s
  | .bit1A, _ => bitOpnd_shape .i1 (.reg .a) s
  | .bit2B, _ => bitOpnd_shape .i2 (.reg .b) s
  | .bit2C, _ => bitOpnd_shape .i2 (.reg .c) s
  | .bit2D, _ => bitOpnd_shape .i2 (.reg .d) s
  | .bit2E, _ => bitOpnd_shape .i2 (.reg .e) s
  | .bit2H, _ => bitOpnd_shape .i2 (.reg .h) s
  | .bit2L, _ => bitOpnd_shape .i2 (.reg .l) s
  | .bit2AtHl, _ => bitOpnd_shape .i2 .atHl s
  | .bit2A, _ => bitOpnd_shape .i2 (.reg .a) s
  | .bit3B, _ => bitOpnd_shape .i3 (.reg .b) s
  | .bit3C, _ => bitOpnd_shape .i3 (.reg .c) s
  | .bit3D, _ => bitOpnd_shape .i3 (.reg .d) s
  | .bit3E, _ => bitOpnd_shape .i3 (.reg .e) s
  | .bit3H, _ => bitOpnd_shape .i3 (.reg .h) s
  | .bit3L, _ => bitOpnd_shape .i3 (.reg .l) s
  | .bit3AtHl, _ => bitOpnd_shape .i3 .atHl s
  | .bit3A, _ => bitOpnd_shape .i3 (.reg .a) s
  | .bit4B, _ => bitOpnd_shape .i4 (.reg .b) s
  | .bit4C, _ => bitOpnd_shape .i4 (.reg .c) s
  | .bit4D, _ => bitOpnd_shape .i4 (.reg .d) s
  | .bit4E, _ => bitOpnd_shape .i4 (.reg .e) s
  | .bit4H, _ => bitOpnd_shape .i4 (.reg .h) s
  | .bit4L, _ => bitOpnd_shape .i4 (.reg .l) s
  | .bit4AtHl, _ => bitOpnd_shape .i4 .atHl s
  | .bit4A, _ => bitOpnd_shape .i4 (.reg .a) s
  | .bit5B, _ => bitOpnd_shape .i5 (.reg .b) s
  | .bit5C, _ => bitOpnd_shape .i5 (.reg .c) s
  | .bit5D, _ => bitOpnd_shape .i5 (.reg .d) s
  | .bit5E, _ => bitOpnd_shape .i5 (.reg .e) s
  | .bit5H, _ => bitOpnd_shape .i5 (.reg .h) s
  | .bit5L, _ => bitOpnd_shape .i5 (.reg .l) s
  | .bit5AtHl, _ => bitOpnd_shape .i5 .atHl s
  | .bit5A, _ => bitOpnd_shape .i5 (.reg .a) s
  | .bit6B, _ => bitOpnd_shape .i6 (.reg .b) s
  | .bit6C, _ => bitOpnd_shape .i6 (.reg .c) s
  | .bit6D, _ => bitOpnd_shape .i6 (.reg .d) s
  | .bit6E, _ => bitOpnd_shape .i6 (.reg .e) s
  | .bit6H, _ => bitOpnd_shape .i6 (.reg .h) s
  | .bit6L, _ => bitOpnd_shape .i6 (.reg .l) s
  | .bit6AtHl, _ => bitOpnd_shape .i6 .atHl s
  | .bit6A, _ => bitOpnd_shape .i6 (.reg .a) s
  | .bit7B, _ => bitOpnd_shape .i7 (.reg .b) s
  | .bit7C, _ => bitOpnd_shape .i7 (.reg .c) s
  | .bit7D, _ => bitOpnd_shape .i7 (.reg .d) s
  | .bit7E, _ => bitOpnd_shape .i7 (.reg .e) s
  | .bit7H, _ => bitOpnd_shape .i7 (.reg .h) s
  | .bit7L, _ => bitOpnd_shape .i7 (.reg .l) s
  | .bit7AtHl, _ => bitOpnd_shape .i7 .atHl s
  | .bit7A, _ => bitOpnd_shape .i7 (.reg .a) s
  | .res0B, _ => resOpnd_shape .i0 (.reg .b) s
  | .res0C, _ => resOpnd_shape .i0 (.reg .c) s
  | .res0D, _ => resOpnd_shape .i0 (.reg .d) s
  | .res0E, _ => resOpnd_shape .i0 (.reg .e) s
  | .res0H, _ => resOpnd_shape .i0 (.reg .h) s
  | .res0L, _ => resOpnd_shape .i0 (.reg .l) s
  | .res0AtHl, _ => resOpnd_shape .i0 .atHl s
  | .res0A, _ => resOpnd_shape .i0 (.reg .a) s
  | .res1B, _ => resOpnd_shape .i1 (.reg .b) s
  | .res1C, _ => resOpnd_shape .i1 (.reg .c) s
  | .res1D, _ => resOpnd_shape .i1 (.reg .d) s
  | .res1E, _ => resOpnd_shape .i1 (.reg .e) s
  | .res1H, _ => resOpnd_shape .i1 (.reg .h) s
  | .res1L, _ => resOpnd_shape .i1 (.reg .l) s
  | .res1AtHl, _ => resOpnd_shape .i1 .atHl s
  | .res1A, _ => resOpnd_shape .i1 (.reg .a) s
  | .res2B, _ => resOpnd_shape .i2 (.reg .b) s
  | .res2C, _ => resOpnd_shape .i2 (.reg .c) s
  | .res2D, _ => resOpnd_shape .i2 (.reg .d) s
  | .res2E, _ => resOpnd_shape .i2 (.reg .e) s
  | .res2H, _ => resOpnd_shape .i2 (.reg .h) s
  | .res2L, _ => resOpnd_shape .i2 (.reg .l) s
  | .res2AtHl, _ => resOpnd_shape .i2 .atHl s
  | .res2A, _ => resOpnd_shape .i2 (.reg .a) s
  | .res3B, _ => resOpnd_shape .i3 (.reg .b) s
  | .res3C, _ => resOpnd_shape .i3 (.reg .c) s
  | .res3D, _ => resOpnd_shape .i3 (.reg .d) s
  | .res3E, _ => resOpnd_shape .i3 (.reg .e) s
  | .res3H, _ => resOpnd_shape .i3 (.reg .h) s
  | .res3L, _ => resOpnd_shape .i3 (.reg .l) s
  | .res3AtHl, _ => resOpnd_shape .i3 .atHl s
  | .res3A, _ => resOpnd_shape .i3 (.reg .a) s
  | .res4B, _ => resOpnd_shape .i4 (.reg .b) s
  | .res4C, _ => resOpnd_shape .i4 (.reg .c) s
  | .res4D, _ => resOpnd_shape .i4 (.reg .d) s
  | .res4E, _ => resOpnd_shape .i4 (.reg .e) s
  | .res4H, _ => resOpnd_shape .i4 (.reg .h) s
  | .res4L, _ => resOpnd_shape .i4 (.reg .l) s
  | .res4AtHl, _ => resOpnd_shape .i4 .atHl s
  | .res4A, _ => resOpnd_shape .i4 (.reg .a) s
  | .res5B, _ => resOpnd_shape .i5 (.reg .b) s
  | .res5C, _ => resOpnd_shape .i5 (.reg .c) s
  | .res5D, _ => resOpnd_shape .i5 (.reg .d) s
  | .res5E, _ => resOpnd_shape .i5 (.reg .e) s
  | .res5H, _ => resOpnd_shape .i5 (.reg .h) s
  | .res5L, _ => resOpnd_shape .i5 (.reg .l) s
  | .res5AtHl, _ => resOpnd_shape .i5 .atHl s
  | .res5A, _ => resOpnd_shape .i5 (.reg .a) s
  | .res6B, _ => resOpnd_shape .i6 (.reg .b) s
  | .res6C, _ => resOpnd_shape .i6 (.reg .c) s
  | .res6D, _ => resOpnd_shape .i6 (.reg .d) s
  | .res6E, _ => resOpnd_shape .i6 (.reg .e) s
  | .res6H, _ => resOpnd_shape .i6 (.reg .h) s
  | .res6L, _ => resOpnd_shape .i6 (.reg .l) s
  | .res6AtHl, _ => resOpnd_shape .i6 .atHl s
  | .res6A, _ => resOpnd_shape .i6 (.reg .a) s
  | .res7B, _ => resOpnd_shape .i7 (.reg .b) s
  | .res7C, _ => resOpnd_shape .i7 (.reg .c) s
  | .res7D, _ => resOpnd_shape .i7 (.reg .d) s
  | .res7E, _ => resOpnd_shape .i7 (.reg .e) s
  | .res7H, _ => resOpnd_shape .i7 (.reg .h) s
  | .res7L, _ => resOpnd_shape .i7 (.reg .l) s
  | .res7AtHl, _ => resOpnd_shape .i7 .atHl s
  | .res7A, _ => resOpnd_shape .i7 (.reg .a) s
  | .set0B, _ => setOpnd_shape .i0 (.reg .b) s
  | .set0C, _ => setOpnd_shape .i0 (.reg .c) s
  | .set0D, _ => setOpnd_shape .i0 (.reg .d) s
  | .set0E, _ => setOpnd_shape .i0 (.reg .e) s
  | .set0H, _ => setOpnd_shape .i0 (.reg .h) s
  | .set0L, _ => setOpnd_shape .i0 (.reg .l) s
  | .set0AtHl, _ => setOpnd_shape .i0 .atHl s
  | .set0A, _ => setOpnd_shape .i0 (.reg .a) s
  | .set1B, _ => setOpnd_shape .i1 (.reg .b) s
  | .set1C, _ => setOpnd_shape .i1 (.reg .c) s
  | .set1D, _ => setOpnd_shape .i1 (.reg .d) s
  | .set1E, _ => setOpnd_shape .i1 (.reg .e) s
  | .set1H, _ => setOpnd_shape .i1 (.reg .h) s
  | .set1L, _ => setOpnd_shape .i1 (.reg .l) s
  | .set1AtHl, _ => setOpnd_shape .i1 .atHl s
  | .set1A, _ => setOpnd_shape .i1 (.reg .a) s
  | .set2B, _ => setOpnd_shape .i2 (.reg .b) s
  | .set2C, _ => setOpnd_shape .i2 (.reg .c) s
  | .set2D, _ => setOpnd_shape .i2 (.reg .d) s
  | .set2E, _ => setOpnd_shape .i2 (.reg .e) s
  | .set2H, _ => setOpnd_shape .i2 (.reg .h) s
  | .set2L, _ => setOpnd_shape .i2 (.reg .l) s
  | .set2AtHl, _ => setOpnd_shape .i2 .atHl s
  | .set2A, _ => setOpnd_shape .i2 (.reg .a) s
  | .set3B, _ => setOpnd_shape .i3 (.reg .b) s
  | .set3C, _ => setOpnd_shape .i3 (.reg .c) s
  | .set3D, _ => setOpnd_shape .i3 (.reg .d) s
  | .set3E, _ => setOpnd_shape .i3 (.reg .e) s
  | .set3H, _ => setOpnd_shape .i3 (.reg .h) s
  | .set3L, _ => setOpnd_shape .i3 (.reg .l) s
  | .set3AtHl, _ => setOpnd_shape .i3 .atHl s
  | .set3A, _ => setOpnd_shape .i3 (.reg .a) s
  | .set4B, _ => setOpnd_shape .i4 (.reg .b) s
  | .set4C, _ => setOpnd_shape .i4 (.reg .c) s
  | .set4D, _ => setOpnd_shape .i4 (.reg .d) s
  | .set4E, _ => setOpnd_shape .i4 (.reg .e) s
  | .set4H, _ => setOpnd_shape .i4 (.reg .h) s
  | .set4L, _ => setOpnd_shape .i4 (.reg .l) s
  | .set4AtHl, _ => setOpnd_shape .i4 .atHl s
  | .set4A, _ => setOpnd_shape .i4 (.reg .a) s
  | .set5B, _ => setOpnd_shape .i5 (.reg .b) s
  | .set5C, _ => setOpnd_shape .i5 (.reg .c) s
  | .set5D, _ => setOpnd_shape .i5 (.reg .d) s
  | .set5E, _ => setOpnd_shape .i5 (.reg .e) s
  | .set5H, _ => setOpnd_shape .i5 (.reg .h) s
  | .set5L, _ => setOpnd_shape .i5 (.reg .l) s
  | .set5AtHl, _ => setOpnd_shape .i5 .atHl s
  | .set5A, _ => setOpnd_shape .i5 (.reg .a) s
  | .set6B, _ => setOpnd_shape .i6 (.reg .b) s
  | .set6C, _ => setOpnd_shape .i6 (.reg .c) s
  | .set6D, _ => setOpnd_shape .i6 (.reg .d) s
  | .set6E, _ => setOpnd_shape .i6 (.reg .e) s
  | .set6H, _ => setOpnd_shape .i6 (.reg .h) s
  | .set6L, _ => setOpnd_shape .i6 (.reg .l) s
  | .set6AtHl, _ => setOpnd_shape .i6 .atHl s
  | .set6A, _ => setOpnd_shape .i6 (.reg .a) s
  | .set7B, _ => setOpnd_shape .i7 (.reg .b) s
  | .set7C, _ => setOpnd_shape .i7 (.reg .c) s
  | .set7D, _ => setOpnd_shape .i7 (.reg .d) s
  | .set7E, _ => setOpnd_shape .i7 (.reg .e) s
  | .set7H, _ => setOpnd_shape .i7 (.reg .h) s
  | .set7L, _ => setOpnd_shape .i7 (.reg .l) s
  | .set7AtHl, _ => setOpnd_shape .i7 .atHl s
  | .set7A, _ => setOpnd_shape .i7 (.reg .a) s

/-- The CB-table operation of a byte is exec of the instruction it decodes to (R132, R305). -/
theorem runCb_eq (o : Byte) (s : State) : runCb o s = exec (decodeCb s.params.decodeSet o) s := by
  unfold runCb decodeCb
  cases s.params.decodeSet with
  | documented => rfl
  | full =>
    generalize fieldX o = x
    rcases x with _ | _ | _ | x <;> simp

/-- The escape faults on its fetch, or is the CB-table instruction of the next byte (R305). -/
theorem exec_prefixCb (s : State) :
    exec .prefixCb s = match readByte s (s.pc + 1) with
      | .error e => .next (s.takeFault e)
      | .ok o => exec (decodeCb s.params.decodeSet o) s := by
  show escapeCb s = _
  unfold escapeCb
  split <;> simp_all [runCb_eq]

end Sys2Proof.Machine
end

