-- ==== Sys2Proof/Laws/Stack.lean ====
section
/-! SUPPORT. What a byte write, a 16-bit write, a push and a pop answer, on every address, said once for each. -/

namespace Sys2Proof.Machine

/-- The addresses a write completes at: VRAM, ERAM, WRAM1, WRAM2 and IO (R63). -/
def TakesWrite (a : Word) : Prop :=
  (0x8000 ≤ a.toNat ∧ a.toNat ≤ 0xDFFF) ∨ (0xFF00 ≤ a.toNat ∧ a.toNat ≤ 0xFF7F)

/-- What such an address reads as after a write of v: v where there is storage, else 0x00 (R66). -/
def kept (p : Params) (a : Word) (v : Byte) : Access Byte := if hasStorage p a = true then .ok v else .ok 0

theorem readByte_mem (s : State) (m : Memory) (x : Word) :
    readByte { s with mem := m } x = if regionOf x = .unmapped then .error ⟨.readUnmapped, x⟩
      else if hasStorage s.params x = true then .ok (m.read x.toNat) else .ok 0 := readByte_eq _ _

/-- A write that completes changes memory only, and there only the byte written (R63). -/
theorem writeByte_spec (s : State) {a : Word} (h : TakesWrite a) (v : Byte) :
    ∃ m, writeByte s a v = .ok { s with mem := m } ∧
      ∀ x, readByte { s with mem := m } x = if x = a then kept s.params a v else readByte s x := by
  have hw := writeByte_writable s h v
  by_cases hs : hasStorage s.params a = true
  · refine ⟨s.mem.write a.toNat v, by rw [hw, if_pos hs]; rfl, fun x => ?_⟩
    have := readByte_store s a v x
    simp only [hs, and_true] at this
    rw [kept, if_pos hs]
    exact this
  · refine ⟨s.mem, by rw [hw, if_neg hs], fun x => ?_⟩
    show readByte s x = _
    split
    · next hx =>
      subst hx
      have hu : regionOf x ≠ .unmapped := by
        rw [ne_eq, regionOf_eq_unmapped_iff]
        unfold TakesWrite at h
        omega
      rw [readByte_eq, if_neg hu, if_neg hs, kept, if_neg hs]
    · rfl

/-- A read at an address that is not unmapped answers (R62). -/
theorem readByte_answers (s : State) {a : Word} (h : a.toNat ≤ 0xDFFF ∨ (0xFF00 ≤ a.toNat ∧ a.toNat ≤ 0xFF7F)) :
    ∃ v, readByte s a = .ok v := by
  have hu : regionOf a ≠ .unmapped := by
    rw [ne_eq, regionOf_eq_unmapped_iff]
    omega
  rw [readByte_eq, if_neg hu]
  by_cases hs : hasStorage s.params a = true
  · exact ⟨_, if_pos hs⟩
  · exact ⟨_, if_neg hs⟩

/-! ### Two writes -/

/-- Two writes to two addresses leave both bytes and every other byte as before. -/
theorem writeTwo_spec (s : State) {a b : Word} (hab : a ≠ b) (ha : TakesWrite a) (hb : TakesWrite b) (v w : Byte) :
    ∃ m m', writeByte s a v = .ok { s with mem := m } ∧ writeByte { s with mem := m } b w = .ok { s with mem := m' } ∧
      readByte { s with mem := m' } a = kept s.params a v ∧ readByte { s with mem := m' } b = kept s.params b w ∧
      ∀ x, x ≠ a → x ≠ b → readByte { s with mem := m' } x = readByte s x := by
  obtain ⟨m, h1, h2⟩ := writeByte_spec s ha v
  obtain ⟨m', h3, h4⟩ := writeByte_spec { s with mem := m } hb w
  refine ⟨m, m', h1, h3, ?_, ?_, fun x hx hx' => ?_⟩
  · exact (h4 a).trans (by rw [if_neg hab, h2 a, if_pos rfl])
  · exact (h4 b).trans (if_pos rfl)
  · exact (h4 x).trans (by rw [if_neg hx', h2 x, if_neg hx])

/-- A 16-bit write that completes (R69). -/
theorem writeWord_spec (s : State) {a : Word} (ha : TakesWrite a) (hb : TakesWrite (a + 1)) (v : Word) :
    ∃ m, writeWord s a v = .ok { s with mem := m } ∧ readByte { s with mem := m } a = kept s.params a (loByte v) ∧
      readByte { s with mem := m } (a + 1) = kept s.params (a + 1) (hiByte v) ∧
      ∀ x, x ≠ a → x ≠ a + 1 → readByte { s with mem := m } x = readByte s x := by
  have hab : a ≠ a + 1 := by bv_omega
  obtain ⟨m, m', h1, h2, h3⟩ := writeTwo_spec s hab ha hb (loByte v) (hiByte v)
  exact ⟨m', by rw [writeWord, h1]; exact h2, h3⟩

/-- A 16-bit write faults as its first write that fails (R69, R327). -/
theorem writeWord_first (s : State) {a v : Word} {e : Abort} (h : writeByte s a (loByte v) = .error e) :
    writeWord s a v = .error e := by
  rw [writeWord, h]

theorem writeWord_second (s : State) {a v : Word} {e : Abort} (ha : TakesWrite a)
    (h : ∀ t, writeByte t (a + 1) (hiByte v) = .error e) : writeWord s a v = .error e := by
  obtain ⟨m, h1, -⟩ := writeByte_spec s ha (loByte v)
  rw [writeWord, h1]
  exact h _

/-! ### The stack -/

theorem sub_one_one (a : Word) : a - 1 - 1 = a - 2 := by bv_omega

theorem add_one_one (a : Word) : a + 1 + 1 = a + 2 := by bv_omega

/-- A push that completes (R194). -/
theorem push_spec (s : State) (ha : TakesWrite (s.sp - 1)) (hb : TakesWrite (s.sp - 2)) (v : Word) :
    ∃ m, push s v = .ok { s with sp := s.sp - 2, mem := m } ∧
      readByte { s with mem := m } (s.sp - 1) = kept s.params (s.sp - 1) (hiByte v) ∧
      readByte { s with mem := m } (s.sp - 2) = kept s.params (s.sp - 2) (loByte v) ∧
      ∀ x, x ≠ s.sp - 1 → x ≠ s.sp - 2 → readByte { s with mem := m } x = readByte s x := by
  have hab : s.sp - 1 ≠ s.sp - 2 := by bv_omega
  obtain ⟨m, h1, h2⟩ := writeByte_spec (s.setSp (s.sp - 1)) ha (hiByte v)
  obtain ⟨m', h3, h4⟩ := writeByte_spec { s with sp := s.sp - 2, mem := m } hb (loByte v)
  refine ⟨m', ?_, ?_, ?_, fun x hx hx' => ?_⟩
  · rw [push, h1]
    show writeByte { s with sp := s.sp - 1 - 1, mem := m } (s.sp - 1 - 1) (loByte v) = _
    rw [sub_one_one]
    exact h3
  · exact (h4 _).trans ((if_neg hab).trans ((h2 _).trans (if_pos rfl)))
  · exact (h4 _).trans (if_pos rfl)
  · exact (h4 _).trans ((if_neg hx').trans ((h2 _).trans (if_neg hx)))

/-- A push faults as its first store that fails, the one at SP - 1 first (R194, R327). -/
theorem push_first (s : State) {v : Word} {e : Abort} (h : ∀ t, writeByte t (s.sp - 1) (hiByte v) = .error e) :
    push s v = .error e := by
  rw [push, h]

theorem push_second (s : State) {v : Word} {e : Abort} (ha : TakesWrite (s.sp - 1))
    (h : ∀ t, writeByte t (s.sp - 2) (loByte v) = .error e) : push s v = .error e := by
  obtain ⟨m, h1, -⟩ := writeByte_spec (s.setSp (s.sp - 1)) ha (hiByte v)
  rw [push, h1]
  show writeByte _ (s.sp - 1 - 1) (loByte v) = _
  rw [sub_one_one]
  exact h _

/-- A pop that completes (R195). -/
theorem pop_spec {s : State} {lo hi : Byte} (h : readByte s s.sp = .ok lo) (h' : readByte s (s.sp + 1) = .ok hi) :
    pop s = .ok (pair hi lo, s.setSp (s.sp + 2)) := by
  rw [pop, h, ← add_one_one]
  simp only [h']

/-- A pop faults as its first read that fails, the one at SP first (R195, R327). -/
theorem pop_first {s : State} {e : Abort} (h : readByte s s.sp = .error e) : pop s = .error e := by
  rw [pop, h]

theorem pop_second {s : State} {lo : Byte} {e : Abort} (h : readByte s s.sp = .ok lo)
    (h' : readByte s (s.sp + 1) = .error e) : pop s = .error e := by
  rw [pop, h]
  simp only [h']

end Sys2Proof.Machine
end

