-- ==== Sys2Proof/Laws/Run.lean ====
section
/-! SUPPORT. What a fetch, an instruction and a step can answer, said once for all instructions. -/

namespace Sys2Proof.Machine

/-- The bytes from PC on that a state reads, as far as the list goes. -/
def BytesAt (s : State) (bytes : List Byte) : Prop :=
  ∀ k (h : k < bytes.length), readByte s (s.pc + BitVec.ofNat 16 k) = .ok bytes[k]

theorem BytesAt.first {s : State} {o : Byte} {rest : List Byte} (h : BytesAt s (o :: rest)) : readByte s s.pc = .ok o := by
  have := h 0 (by simp)
  simp at this
  exact this

theorem BytesAt.second {s : State} {o n : Byte} {rest : List Byte} (h : BytesAt s (o :: n :: rest)) :
    readByte s (s.pc + 1) = .ok n := by
  have := h 1 (by simp)
  simp at this
  exact this

theorem BytesAt.third {s : State} {o n m : Byte} {rest : List Byte} (h : BytesAt s (o :: n :: m :: rest)) :
    readByte s (s.pc + 1 + 1) = .ok m := by
  have := h 2 (by simp)
  simp at this
  rw [add_one_one]
  exact this

/-- A fetch reads the instruction that the bytes at PC decode to (R131 to R133). -/
theorem fetchInstr_ok {s : State} {bytes : List Byte} {i : Instr} (h : decode s.params.decodeSet bytes = .ok (i, []))
    (hi : i ≠ .prefixCb) (hb : BytesAt s bytes) : fetchInstr s = .ok i := by
  rcases bytes with _ | ⟨o, rest⟩
  · cases h
  simp only [fetchInstr, hb.first]
  simp only [decode] at h
  cases hT : decodeTag s.params.decodeSet o <;> simp only [hT] at h ⊢
  case op j => cases h; rfl
  case invalid => cases h; rfl
  case imm8 mk =>
    rcases rest with _ | ⟨n, rest⟩
    · cases h
    · simp only [hb.second]
      cases h
      rfl
  case imm16 mk =>
    rcases rest with _ | ⟨n, _ | ⟨m, rest⟩⟩
    · cases h
    · cases h
    · simp only [readWord, hb.second, hb.third]
      cases h
      rfl
  case escape =>
    rcases rest with _ | ⟨n, rest⟩
    · cases h
      exact absurd rfl hi
    · simp only [hb.second]
      cases h
      rfl

/-- An instruction other than the escape completes at its cost with its effect, or takes a fault. -/
theorem exec_cases {i : Instr} {s t : State} (hi : i ≠ .prefixCb) (h : exec i s = .next t) :
    (∃ u, Effect (writesFlags i) (writesSp i) (writesInterruptEnable i) s u ∧
      t = u.complete s.eiPending (chargeOf s i)) ∨ ∃ e, t = s.takeFault e := by
  obtain ⟨len, body, h1, h2⟩ := exec_shape i hi s
  rw [h1] at h
  rcases runInstr_cases h with ⟨u, hu, rfl⟩ | ⟨e, rfl⟩
  · exact .inl ⟨u, (Effect.setPc _ _ _ s _).trans (h2 _ _ hu), rfl⟩
  · exact .inr ⟨e, rfl⟩

/-- Every instruction completes as some instruction other than the escape does, or takes a fault (R305). -/
theorem exec_cases_all {i : Instr} {s t : State} (h : exec i s = .next t) :
    (∃ j u, j ≠ .prefixCb ∧ Effect (writesFlags j) (writesSp j) (writesInterruptEnable j) s u ∧
      t = u.complete s.eiPending (chargeOf s j)) ∨ ∃ e, t = s.takeFault e := by
  by_cases hi : i = .prefixCb
  · subst hi
    rw [exec_prefixCb] at h
    split at h
    · exact .inr ⟨_, (Host.Outcome.next.inj h).symm⟩
    · next o _ =>
      have hne := decodeCb_ne_prefixCb s.params.decodeSet o
      exact (exec_cases hne h).imp (fun ⟨u, h1, h2⟩ => ⟨_, u, hne, h1, h2⟩) id
  · exact (exec_cases hi h).imp (fun ⟨u, h1, h2⟩ => ⟨i, u, hi, h1, h2⟩) id

/-- A step changes nothing, or is an instruction that completes, or takes a fault; the last two from RUNNING only. -/
theorem step_cases {s t : State} (h : step s = .next t) :
    t = s ∨ (s.run = .running ∧
      ((∃ j u, j ≠ .prefixCb ∧ Effect (writesFlags j) (writesSp j) (writesInterruptEnable j) s u ∧
        t = u.complete s.eiPending (chargeOf s j)) ∨ ∃ e, t = s.takeFault e)) := by
  unfold step at h
  cases hr : s.run <;> simp only [hr] at h
  case running =>
    split at h
    · exact .inr ⟨rfl, .inr ⟨_, (Host.Outcome.next.inj h).symm⟩⟩
    · exact .inr ⟨rfl, exec_cases_all h⟩
  all_goals exact .inl (Host.Outcome.next.inj h).symm

/-- The stores of an instruction reach no ROM byte (R64). -/
theorem Stores.read_rom {p : Params} {m m' : Memory} (h : Stores p m m') {k : Nat} (hk : k < 32768) :
    m'.read k = m.read k := by
  induction h with
  | none => rfl
  | more a v _ hr _ ih =>
    rw [Memory.read_write, if_neg, ih]
    rintro rfl
    exact hr (regionOf_rom (by omega))

/-- The stores of an instruction keep the canonical form of memory and reach only addresses with storage. -/
theorem Stores.placed {p : Params} {m m' : Memory} (h : Stores p m m') (hw : m.wf = true)
    (hp : ∀ cell ∈ m, cell.1 < 65536 ∧ hasStorage p (BitVec.ofNat 16 cell.1) = true) :
    m'.wf = true ∧ ∀ cell ∈ m', cell.1 < 65536 ∧ hasStorage p (BitVec.ofNat 16 cell.1) = true := by
  induction h with
  | none => exact ⟨hw, hp⟩
  | more a v _ _ hs ih =>
    refine ⟨Memory.wf_write ih.1 _ _, fun cell hc => ?_⟩
    rcases Memory.mem_write hc with hc | hc
    · exact ih.2 cell hc
    · rw [hc]
      exact ⟨a.isLt, by simpa using hs⟩

end Sys2Proof.Machine
end

