-- ==== Sys2Proof/Tests/Slice0.lean ====
section
/-! SUPPORT. Tests of single steps against the examples and vectors of spec/, the decoding of words written out from the maps,
the ill-formed terms, and a witness for the hypotheses of every statement that has some. -/

namespace Sys2Proof.Tests

open Sys2Proof.Machine Sys2Proof.Claims

/-! ## Helpers -/

/-- The reset state with PC and SP in work RAM, F and L zero. -/
def base : State := { State.reset with pc := 0xC800, sp := 0xD000, f := 0, l := 0 }

/-- The state with some bytes put into region storage from an address on. -/
def holding (s : State) (a : Word) (bytes : List Byte) : State := s.place a bytes

/-- The state after one step that finds the bytes at PC. -/
def ran (s : State) (bytes : List Byte) : State := nextState (s.place s.pc bytes)

/-- What a storage address holds. -/
def memAt (s : State) (a : Word) : Byte := s.mem.read a.toNat

/-- What every instruction of n bytes and a cost leaves when it completes from base without a jump. -/
def advanced (t : State) (n : Word) (cost : Nat) : Bool :=
  t.pc == 0xC800 + n && t.cycles == cost && t.run == .running && t.fault == none

/-- The kind and the value of the fault record. -/
def faultOf (t : State) : Option (FaultKind × Word) := t.fault.map fun r => (r.kind, r.value)

/-! ## Well-formedness -/

theorem test_ill_formed_invalid_nop : WellFormed .full (.invalid 0x0000) = false := by decide
theorem test_ill_formed_invalid_cb_under_full : WellFormed .full (.invalid 0xCB37) = false := by decide
theorem test_ill_formed_add_under_documented : WellFormed .documented .addAB = false := by decide
theorem test_ill_formed_rlc_under_documented : WellFormed .documented .rlcB = false := by decide
theorem test_ill_formed_invalid_documented_byte : WellFormed .documented (.invalid 0x0006) = false := by decide
theorem test_well_formed_invalid : WellFormed .full (.invalid 0x00D3) = true ∧
    WellFormed .documented (.invalid 0xCB37) = true ∧ WellFormed .documented (.invalid 0x0080) = true := by decide

/-- R110: 61 opcodes are documented; R109: eleven bytes are illegal. -/
theorem test_opcode_sets : documentedOpcodes.length = 61 ∧ documentedOpcodes.Nodup ∧ illegalOpcodes.length = 11 ∧
    illegalOpcodes.Nodup := by decide

/-- R67: 71 of the 128 addresses of the IO region are backed, and IO_BACKED names no other. -/
theorem test_io_backed : Params.default.wf = true ∧
    ((List.range 128).filter fun k => ioBacked Params.default (BitVec.ofNat 16 (0xFF00 + k))).length = 71 := by
  decide +kernel

/-! ## Decoding: words written out bit by bit from R101 to R108 -/

theorem test_decode_ld_e_d8 : Decodes (.ldED8 0x99) [0b00011110, 0x99] := rfl
theorem test_decode_ld_from_hl_plus : Decodes .ldAAtHlInc [0b00101010] := rfl
theorem test_decode_ld_h_a : Decodes .ldHA [0b01100111] := rfl
theorem test_decode_ld_hl_l : Decodes .ldAtHlL [0b01110101] := rfl
theorem test_decode_ldh : Decodes (.ldhAtA8A 0x40) [0b11100000, 0x40] := rfl
theorem test_decode_ld_sp_d16 : Decodes (.ldSpD16 0xDFFF) [0b00110001, 0xFF, 0xDF] := rfl
theorem test_decode_ld_a16_sp : Decodes (.ldAtA16Sp 0xC000) [0b00001000, 0x00, 0xC0] := rfl
theorem test_decode_push_de : Decodes .pushDe [0b11010101] := rfl
theorem test_decode_pop_hl : Decodes .popHl [0b11100001] := rfl
theorem test_decode_dec_l : Decodes .decL [0b00101101] := rfl
theorem test_decode_adc_a_hl : Decodes .adcAAtHl [0b10001110] := rfl
theorem test_decode_xor_d8 : Decodes (.xorD8 0x0F) [0b11101110, 0x0F] := rfl
theorem test_decode_daa : Decodes .daa [0b00100111] := rfl
theorem test_decode_inc_hl_pair : Decodes .incHl [0b00100011] := rfl
theorem test_decode_dec_bc : Decodes .decBc [0b00001011] := rfl
theorem test_decode_add_hl_de : Decodes .addHlDe [0b00011001] := rfl
theorem test_decode_add_sp : Decodes (.addSpE8 0xFE) [0b11101000, 0xFE] := rfl
theorem test_decode_rlca : Decodes .rlca [0b00000111] := rfl
theorem test_decode_sra_d : Decodes .sraD [0b11001011, 0b00101010] := rfl
theorem test_decode_bit_3_hl : Decodes .bit3AtHl [0b11001011, 0b01011110] := rfl
theorem test_decode_set_0_b : Decodes .set0B [0b11001011, 0b11000000] := rfl
theorem test_decode_jr_nc : Decodes (.jrNcE8 0x05) [0b00110000, 0x05] := rfl
theorem test_decode_jp_c : Decodes (.jpCA16 0x0200) [0b11011010, 0x00, 0x02] := rfl
theorem test_decode_call_nz : Decodes (.callNzA16 0x1234) [0b11000100, 0x34, 0x12] := rfl
theorem test_decode_ret_z : Decodes .retZ [0b11001000] := rfl
theorem test_decode_reti : Decodes .reti [0b11011001] := rfl
theorem test_decode_rst_38 : Decodes .rst38 [0b11111111] := rfl
theorem test_decode_stop_is_one_byte : decode .full [0x10, 0x00] = .ok (.stop, [0x00]) := rfl
theorem test_decode_di : Decodes .di [0b11110011] := rfl
theorem test_decode_invalid : Decodes (.invalid 0x00FD) [0b11111101] := rfl
theorem test_decode_missing_operand : decode .full [0x06] = .error .operandMissing ∧ decode .full [] = .error .noByte :=
  ⟨rfl, rfl⟩

/-- The bytes that the decoder leaves over, put after the encoding of what it read, are the bytes it was given. -/
def readsBack (bytes : List Byte) : Bool :=
  match decode .full bytes with
  | .ok (i, rest) => encode i ++ rest == bytes
  | .error _ => false

/-- Every cell of the primary map of R107 but the escape, with the operand bytes 12 34. -/
theorem test_primary_map : ∀ k : Fin 256, k ≠ 0xCB → readsBack [BitVec.ofNat 8 k, 0x12, 0x34] = true := by decide +kernel

/-- Every cell of the CB map of R108. -/
theorem test_cb_map : ∀ k : Fin 256, readsBack [0xCB, BitVec.ofNat 8 k, 0x34] = true := by decide +kernel

/-- Every row of the opcode table: 8-bit rows, and 16-bit rows numbered with 0xCB above (log entry 7). -/
theorem test_table_words :
    (∀ k : Fin 256, ((decodeTableWord 8 k).map fun i => (encode i).head?) = some (some (BitVec.ofNat 8 k))) ∧
    ∀ k : Fin 256, (decodeTableWord 16 (0xCB00 + k)).map encode = some [0xCB, BitVec.ofNat 8 k] := by decide +kernel

/-- The first instruction after reset is the one placed (log entry 6). -/
theorem test_first_instruction :
    (nextState (State.reset.withFetchWord 8 0x04)).b = 0x01 ∧
    (nextState (State.reset.withFetchWord 16 0xCB37)).a = 0x11 ∧
    (nextState (State.reset.withFetchWord 16 0xCB37)).pc = 0x0102 ∧
    (nextState (State.reset.withFetchWord 8 0xC3)).pc = 0x0000 ∧
    (nextState (State.reset.withFetchWord 8 0xCB)).pc = 0x0102 := by decide

/-! ## 8-bit loads: the examples of R160 to R176 -/

theorem test_ld_b_d8 : let t := ran base [0x06, 0xDD]; t.b = 0xDD ∧ advanced t 2 2 = true := by decide
theorem test_ld_hl_d8 : let t := ran { base with h := 0xC1, l := 0x23 } [0x36, 0x5A]
    memAt t 0xC123 = 0x5A ∧ advanced t 2 3 = true := by decide
theorem test_ld_bc_a : let t := ran { base with b := 0xD0, c := 0x00, a := 0x77 } [0x02]
    memAt t 0xD000 = 0x77 ∧ advanced t 1 2 = true := by decide
theorem test_ld_a_de : let t := ran (holding { base with d := 0x01, e := 0x50 } 0x0150 [0x3C]) [0x1A]
    t.a = 0x3C ∧ advanced t 1 2 = true := by decide
theorem test_ld_hl_plus_a : let t := ran { base with h := 0xC0, l := 0xFF, a := 0x01 } [0x22]
    memAt t 0xC0FF = 0x01 ∧ t.hl = 0xC100 ∧ advanced t 1 2 = true := by decide
theorem test_ld_hl_minus_a : let t := ran { base with h := 0xDF, l := 0xFF, a := 0xAA } [0x32]
    memAt t 0xDFFF = 0xAA ∧ t.hl = 0xDFFE ∧ advanced t 1 2 = true := by decide
theorem test_ld_hl_plus_a_fault : let t := ran { base with h := 0xFF, l := 0xFF } [0x22]
    t.hl = 0xFFFF ∧ t.pc = 0xC800 ∧ t.cycles = 0 ∧ t.run = .faulted ∧ faultOf t = some (.writeUnmapped, 0xFFFF) := by decide
theorem test_ld_a_hl_plus : let t := ran { base with h := 0x01, l := 0x00, a := 0x55 } [0x2A]
    t.a = 0x00 ∧ t.hl = 0x0101 ∧ advanced t 1 2 = true := by decide
theorem test_ld_a_hl_minus_wraps : let t := ran { base with h := 0x00, l := 0x00 } [0x3A]
    t.hl = 0xFFFF ∧ advanced t 1 2 = true := by decide
theorem test_ld_a_b : let t := ran { base with b := 0x42 } [0x78]; t.a = 0x42 ∧ advanced t 1 1 = true := by decide
theorem test_ld_h_hl : let t := ran (holding { base with h := 0xC0, l := 0x00 } 0xC000 [0x99]) [0x66]
    t.h = 0x99 ∧ t.l = 0x00 ∧ advanced t 1 2 = true := by decide
theorem test_ld_hl_h : let t := ran { base with h := 0xC0, l := 0x12 } [0x74]; memAt t 0xC012 = 0xC0 := by decide
theorem test_ldh_a8_a : let t := ran { base with a := 0x91 } [0xE0, 0x40]
    memAt t 0xFF40 = 0x91 ∧ advanced t 2 3 = true := by decide
theorem test_ldh_a8_a_unmapped : faultOf (ran base [0xE0, 0x80]) = some (.writeUnmapped, 0xFF80) := by decide
theorem test_ldh_a_a8 : let t := ran (holding base 0xFF44 [0x90]) [0xF0, 0x44]
    t.a = 0x90 ∧ advanced t 2 3 = true := by decide
theorem test_ld_c_a : let t := ran { base with c := 0x47, a := 0xE4 } [0xE2]
    memAt t 0xFF47 = 0xE4 ∧ advanced t 1 2 = true := by decide
theorem test_ld_a_c_unbacked : let t := ran { base with c := 0x03 } [0xF2]
    t.a = 0x00 ∧ advanced t 1 2 = true := by decide
theorem test_ld_a16_a : let t := ran { base with a := 0x05 } [0xEA, 0x00, 0xC0]
    memAt t 0xC000 = 0x05 ∧ advanced t 3 4 = true := by decide
theorem test_ld_a16_a_rom : faultOf (ran base [0xEA, 0x00, 0x20]) = some (.writeRom, 0x2000) := by decide
theorem test_ld_a_a16 : let t := ran base [0xFA, 0x48, 0x01]; t.a = 0x00 ∧ advanced t 3 4 = true := by decide

/-! ## 16-bit loads and the stack: R190 to R196 -/

theorem test_ld_hl_d16 : let t := ran base [0x21, 0x34, 0x12]
    t.h = 0x12 ∧ t.l = 0x34 ∧ advanced t 3 3 = true := by decide
theorem test_ld_a16_sp : let t := ran { base with sp := 0xDFF0 } [0x08, 0x00, 0xC0]
    memAt t 0xC000 = 0xF0 ∧ memAt t 0xC001 = 0xDF ∧ advanced t 3 5 = true := by decide
theorem test_ld_a16_sp_undone : let t := ran (holding base 0xDFFF [0x77]) [0x08, 0xFF, 0xDF]
    memAt t 0xDFFF = 0x77 ∧ faultOf t = some (.writeUnmapped, 0xE000) := by decide
theorem test_ld_sp_hl : let t := ran { base with h := 0xDF, l := 0xFF } [0xF9]
    t.sp = 0xDFFF ∧ advanced t 1 2 = true := by decide
theorem test_ld_hl_sp_e8 : let t := ran { base with sp := 0x00FF } [0xF8, 0x01]
    t.hl = 0x0100 ∧ t.f = 0x30 ∧ t.sp = 0x00FF ∧ advanced t 2 3 = true := by decide
theorem test_ld_hl_sp_negative : let t := ran { base with sp := 0x0000 } [0xF8, 0xFF]
    t.hl = 0xFFFF ∧ t.f = 0x00 := by decide
theorem test_push_bc : let t := ran { base with b := 0x12, c := 0x34 } [0xC5]
    memAt t 0xCFFF = 0x12 ∧ memAt t 0xCFFE = 0x34 ∧ t.sp = 0xCFFE ∧ advanced t 1 4 = true := by decide
theorem test_push_at_reset_sp : faultOf (ran { base with sp := 0xFFFE } [0xC5]) = some (.writeUnmapped, 0xFFFD) := by decide
theorem test_pop_de : let t := ran (holding { base with sp := 0xCFFE } 0xCFFE [0x34, 0x12]) [0xD1]
    t.d = 0x12 ∧ t.e = 0x34 ∧ t.sp = 0xD000 ∧ advanced t 1 3 = true := by decide
theorem test_pop_af : let t := ran (holding { base with sp := 0xCFFE } 0xCFFE [0xFF, 0x12]) [0xF1]
    t.a = 0x12 ∧ t.f = 0xF0 ∧ t.sp = 0xD000 := by decide

/-! ## 8-bit arithmetic: R210 to R226 -/

theorem test_inc_c : let t := ran { base with b := 0xFF, c := 0xFF, f := 0x50 } [0x0C]
    t.reg16 .bc = 0xFF00 ∧ t.f = 0xB0 ∧ advanced t 1 1 = true := by decide
theorem test_inc_at_hl : let t := ran (holding { base with h := 0xC0 } 0xC000 [0x0F]) [0x34]
    memAt t 0xC000 = 0x10 ∧ t.f = 0x20 ∧ advanced t 1 3 = true := by decide
theorem test_dec_b : let t := ran { base with b := 0x10, f := 0x10 } [0x05]
    t.b = 0x0F ∧ t.f = 0x70 := by decide
theorem test_dec_at_hl : let t := ran (holding { base with h := 0xD0 } 0xD000 [0x01]) [0x35]
    memAt t 0xD000 = 0x00 ∧ t.f = 0xC0 ∧ advanced t 1 3 = true := by decide
theorem test_add_a_b : let t := ran { base with a := 0x3A, b := 0xC6 } [0x80]
    t.a = 0x00 ∧ t.f = 0xB0 ∧ advanced t 1 1 = true := by decide
theorem test_adc_a_e : let t := ran { base with a := 0xE1, e := 0x0F, f := 0x10 } [0x8B]
    t.a = 0xF1 ∧ t.f = 0x20 := by decide
theorem test_sub_e : let t := ran { base with a := 0x3E, e := 0x3E } [0x93]; t.a = 0x00 ∧ t.f = 0xC0 := by decide
theorem test_sbc_a_h : let t := ran { base with a := 0x3B, h := 0x2A, f := 0x10 } [0x9C]
    t.a = 0x10 ∧ t.f = 0x40 := by decide
theorem test_sbc_a_a : let t := ran { base with a := 0x07, f := 0x10 } [0x9F]; t.a = 0xFF ∧ t.f = 0x70 := by decide
theorem test_and_l : let t := ran { base with a := 0x5A, l := 0x3F } [0xA5]; t.a = 0x1A ∧ t.f = 0x20 := by decide
theorem test_xor_d8 : let t := ran { base with a := 0xFF } [0xEE, 0x0F]
    t.a = 0xF0 ∧ t.f = 0x00 ∧ advanced t 2 2 = true := by decide
theorem test_or_a : let t := ran { base with a := 0x00, f := 0x70 } [0xB7]; t.a = 0x00 ∧ t.f = 0x80 := by decide
theorem test_cp_d8 : let t := ran { base with a := 0x3C } [0xFE, 0x40]; t.a = 0x3C ∧ t.f = 0x50 := by decide
theorem test_add_a_hl : let t := ran (holding { base with h := 0xC0, a := 0x3C } 0xC000 [0x12]) [0x86]
    t.a = 0x4E ∧ t.f = 0x00 ∧ advanced t 1 2 = true := by decide
theorem test_daa_add : let t := ran { base with a := 0x7D } [0x27]; t.a = 0x83 ∧ t.f = 0x00 ∧ advanced t 1 1 = true := by decide
theorem test_daa_sub : let t := ran { base with a := 0x4B, f := 0x60 } [0x27]; t.a = 0x45 ∧ t.f = 0x40 := by decide
theorem test_cpl : let t := ran { base with a := 0x35, f := 0x90 } [0x2F]; t.a = 0xCA ∧ t.f = 0xF0 := by decide
theorem test_scf : (ran { base with f := 0x60 } [0x37]).f = 0x10 := by decide
theorem test_ccf : (ran { base with f := 0x90 } [0x3F]).f = 0x80 := by decide

/-! ## 16-bit arithmetic: R240 to R243 -/

theorem test_inc_de : let t := ran { base with d := 0x12, e := 0xFF, f := 0xF0 } [0x13]
    t.reg16 .de = 0x1300 ∧ t.f = 0xF0 ∧ advanced t 1 2 = true := by decide
theorem test_dec_sp : let t := ran base [0x3B]; t.sp = 0xCFFF ∧ advanced t 1 2 = true := by decide
theorem test_add_hl_bc : let t := ran { base with h := 0x8A, l := 0x23, b := 0x06, c := 0x05, f := 0x80 } [0x09]
    t.hl = 0x9028 ∧ t.f = 0xA0 ∧ advanced t 1 2 = true := by decide
theorem test_add_hl_hl : let t := ran { base with h := 0x80, l := 0x00 } [0x29]; t.hl = 0x0000 ∧ t.f = 0x10 := by decide
theorem test_add_sp_e8 : let t := ran { base with sp := 0x0001 } [0xE8, 0xFF]
    t.sp = 0x0000 ∧ t.f = 0x30 ∧ advanced t 2 4 = true := by decide

/-! ## Rotates, shifts, bits: R250 to R272 -/

theorem test_rlca : let t := ran { base with a := 0x85 } [0x07]; t.a = 0x0B ∧ t.f = 0x10 := by decide
theorem test_rrca : let t := ran { base with a := 0x3B } [0x0F]; t.a = 0x9D ∧ t.f = 0x10 := by decide
theorem test_rla : let t := ran { base with a := 0x95, f := 0x10 } [0x17]; t.a = 0x2B ∧ t.f = 0x10 := by decide
theorem test_rra : let t := ran { base with a := 0x81 } [0x1F]; t.a = 0x40 ∧ t.f = 0x10 := by decide
theorem test_rlc_b : let t := ran { base with b := 0x85 } [0xCB, 0x00]
    t.b = 0x0B ∧ t.f = 0x10 ∧ advanced t 2 2 = true := by decide
theorem test_rrc_c : let t := ran { base with c := 0x01 } [0xCB, 0x09]; t.c = 0x80 ∧ t.f = 0x10 := by decide
theorem test_rl_l : let t := ran { base with l := 0x80 } [0xCB, 0x15]; t.l = 0x00 ∧ t.f = 0x90 := by decide
theorem test_rr_a : let t := ran { base with a := 0x01 } [0xCB, 0x1F]; t.a = 0x00 ∧ t.f = 0x90 := by decide
theorem test_sla_d : let t := ran { base with d := 0xFF } [0xCB, 0x22]; t.d = 0xFE ∧ t.f = 0x10 := by decide
theorem test_sra_a : let t := ran { base with a := 0x8A } [0xCB, 0x2F]; t.a = 0xC5 ∧ t.f = 0x00 := by decide
theorem test_swap_a : let t := ran { base with a := 0xF0, f := 0x10 } [0xCB, 0x37]; t.a = 0x0F ∧ t.f = 0x00 := by decide
theorem test_srl_a : let t := ran { base with a := 0xFF } [0xCB, 0x3F]; t.a = 0x7F ∧ t.f = 0x10 := by decide
theorem test_bit_0_a : let t := ran { base with a := 0xFE, f := 0x10 } [0xCB, 0x47]; t.a = 0xFE ∧ t.f = 0xB0 := by decide
theorem test_bit_hl_in_rom : let t := ran { base with h := 0x00, l := 0x00 } [0xCB, 0x46]
    t.flagZ = true ∧ advanced t 2 3 = true := by decide
theorem test_res_7_hl : let t := ran (holding { base with h := 0xC0, f := 0xA0 } 0xC000 [0xFF]) [0xCB, 0xBE]
    memAt t 0xC000 = 0x7F ∧ t.f = 0xA0 ∧ advanced t 2 4 = true := by decide
theorem test_res_hl_in_rom : faultOf (ran { base with h := 0x00, l := 0x00 } [0xCB, 0x86]) = some (.writeRom, 0x0000) := by
  decide
theorem test_set_3_b : let t := ran { base with b := 0x00, f := 0x50 } [0xCB, 0xD8]; t.b = 0x08 ∧ t.f = 0x50 := by decide

/-! ## Jumps, calls, returns: R281 to R291 -/

/-- A RUNNING state at 0x0150 with SP in work RAM. -/
def at0150 : State := { base with pc := 0x0150 }

theorem test_jr : (ran at0150 [0x18, 0x05]).pc = 0x0157 ∧ (ran at0150 [0x18, 0xFB]).pc = 0x014D := by decide
theorem test_jr_nz : (ran { base with pc := 0x0102 } [0x20, 0xFD]).pc = 0x0101 ∧
    (ran { base with pc := 0x0102, f := 0x80 } [0x20, 0xFD]).pc = 0x0104 := by decide
theorem test_jr_not_taken_cost : (ran { base with f := 0x80 } [0x20, 0xFD]).cycles = 3 ∧
    (ran { base with f := 0x80, params := { Params.default with condCycles := .perOutcome } } [0x20, 0xFD]).cycles = 2 := by
  decide
theorem test_jp : let t := ran base [0xC3, 0x50, 0x01]; t.pc = 0x0150 ∧ t.cycles = 4 := by decide
theorem test_jp_c : (ran { base with f := 0x10 } [0xDA, 0x00, 0x02]).pc = 0x0200 ∧
    (ran base [0xDA, 0x00, 0x02]).pc = 0xC803 := by decide
theorem test_jp_hl : let t := ran { base with h := 0x02, l := 0x00 } [0xE9]; t.pc = 0x0200 ∧ t.cycles = 1 := by decide
theorem test_call : let t := ran at0150 [0xCD, 0x00, 0x02]
    memAt t 0xCFFF = 0x01 ∧ memAt t 0xCFFE = 0x53 ∧ t.sp = 0xCFFE ∧ t.pc = 0x0200 ∧ t.cycles = 6 := by decide
theorem test_call_second_store_faults : let t := ran { at0150 with sp := 0x8001 } [0xCD, 0x00, 0x02]
    faultOf t = some (.writeRom, 0x7FFF) ∧ t.sp = 0x8001 ∧ memAt t 0x8000 = 0x00 := by decide
theorem test_call_z_not_taken : let t := ran { at0150 with sp := 0xFFFE } [0xCC, 0x00, 0x02]
    t.pc = 0x0153 ∧ t.sp = 0xFFFE ∧ t.run = .running := by decide
theorem test_ret : let t := ran (holding { base with sp := 0xCFFE } 0xCFFE [0x53, 0x01]) [0xC9]
    t.pc = 0x0153 ∧ t.sp = 0xD000 ∧ t.cycles = 4 := by decide
theorem test_ret_c : let s := holding { base with sp := 0xCFFE, f := 0x10 } 0xCFFE [0x53, 0x01]
    (ran s [0xD8]).pc = 0x0153 ∧ (ran s [0xD8]).cycles = 5 ∧ (ran s [0xD0]).pc = 0xC801 := by decide
theorem test_reti : let t := ran (holding { base with sp := 0xCFFE } 0xCFFE [0x53, 0x01]) [0xD9]
    t.pc = 0x0153 ∧ t.sp = 0xD000 ∧ t.ime = true := by decide
theorem test_rst_28 : let t := ran at0150 [0xEF]
    memAt t 0xCFFF = 0x01 ∧ memAt t 0xCFFE = 0x51 ∧ t.sp = 0xCFFE ∧ t.pc = 0x0028 ∧ t.cycles = 4 := by decide

/-! ## Control: R300 to R306, R137, R138 -/

theorem test_nop : advanced (ran base [0x00]) 1 1 = true := by decide
theorem test_stop : let t := ran base [0x10]
    t.run = .stopped ∧ t.pc = 0xC801 ∧ t.cycles = 1 ∧ stepReport t = ⟨0, .notRunning⟩ := by decide
theorem test_halt : let t := ran base [0x76]; t.run = .halted ∧ t.pc = 0xC801 ∧ t.cycles = 1 := by decide
theorem test_di : let t := ran { base with ime := true, eiPending := true } [0xF3]
    t.ime = false ∧ t.eiPending = false := by decide
theorem test_ei_then_nop : let t := ran base [0xFB, 0x00]
    t.ime = false ∧ t.eiPending = true ∧ (nextState t).ime = true ∧ (nextState t).eiPending = false := by decide
theorem test_ei_then_ei : let t := nextState (ran base [0xFB, 0xFB]); t.ime = true ∧ t.eiPending = false := by decide
theorem test_ei_then_fault : let t := nextState (ran base [0xFB, 0xD3])
    t.ime = false ∧ t.eiPending = true ∧ t.run = .faulted := by decide
theorem test_escape_across_regions : let t := ran (holding { base with pc := 0x7FFF, a := 0xF0 } 0x8000 [0x37]) [0xCB]
    t.a = 0x0F ∧ t.pc = 0x8001 := by decide
theorem test_invalid_faults : let t := ran { base with pc := 0x0100 } [0xD3]
    t.run = .faulted ∧ t.fault = some ⟨.decodeGap, 0xD3, 0x0100⟩ ∧ t.pc = 0x0100 ∧ t.cycles = 0 := by decide
theorem test_invalid_nop : let s := { base with pc := 0x0100, params := { Params.default with invalidPolicy := .nop } }
    (ran s [0xD3]).pc = 0x0101 ∧ (ran s [0xD3]).cycles = 1 ∧
      (stepReport (s.place s.pc [0xD3])).outcome = .decodeGap 0xD3 := by decide
theorem test_documented_cb : let s := { base with params := { Params.default with decodeSet := .documented } }
    (ran s [0xCB, 0x37]).fault = some ⟨.decodeGap, 0xCB37, 0xC800⟩ := by decide
theorem test_fetch_from_unmapped : (nextState { base with pc := 0xE000 }).fault = some ⟨.readUnmapped, 0xE000, 0xE000⟩ := by
  decide
theorem test_operand_fetch_from_unmapped : (ran { base with pc := 0xDFFF } [0x06]).fault =
    some ⟨.readUnmapped, 0xE000, 0xDFFF⟩ := by decide
theorem test_oversized_image : construct Params.default (List.replicate 32769 0) = .fault .configError := by
  unfold construct
  rw [if_pos (by rw [List.length_replicate]; decide)]
theorem test_fault_codes : [FaultKind.writeRom, .readUnmapped, .writeUnmapped, .decodeGap].map FaultKind.code = [1, 2, 3, 4] := by
  decide

/-! ## Witnesses: for each statement with hypotheses, states and operands that meet them, clause by clause -/

/-- base with BC, DE and HL at an address. -/
def pointing (a : Word) : State := ((base.setReg16 .hl a).setReg16 .bc a).setReg16 .de a

/-- The kinds of address at both ends of their ranges: the hypotheses of MemWriteThenRead, and of every statement on an address. -/
theorem witness_addresses :
    Writable 0x8000 ∧ Writable 0xDFFF ∧ Writable 0xFF00 ∧ Writable 0xFF7F ∧ InRom 0x0000 ∧ InRom 0x7FFF ∧
    Unmapped 0xE000 ∧ Unmapped 0xFEFF ∧ Unmapped 0xFF80 ∧ Unmapped 0xFFFF ∧ Readable 0x0000 ∧ Readable 0xDFFF ∧
    Readable 0xFF00 ∧ Readable 0xFF7F := by decide

theorem witness_DecodeOfEncodeIsInstruction :
    WellFormed .full (.ldBD8 0xFF) = true ∧ Instr.ldBD8 0xFF ≠ .prefixCb ∧
    WellFormed .documented (.invalid 0xCB37) = true ∧ Instr.invalid 0xCB37 ≠ .prefixCb := by decide

theorem witness_DecodedBytesAreTheEncoding :
    decode .full [0x06, 0xDD, 0x76] = .ok (.ldBD8 0xDD, [0x76]) ∧
    decode .documented [0xCB, 0xFF] = .ok (.invalid 0xCBFF, []) := ⟨rfl, rfl⟩

theorem witness_IllegalBytesDecodeToInvalid :
    (0xD3 : Byte) ∈ illegalOpcodes ∧ (0xFD : Byte) ∈ illegalOpcodes ∧ (0xD2 : Byte) ∉ illegalOpcodes ∧
    (0xFE : Byte) ∉ illegalOpcodes := by decide

theorem witness_DocumentedSetRestrictsDecoding :
    documentedOpcodes.contains 0x80 = false ∧ documentedOpcodes.contains 0xC3 = true ∧ (0xC3 : Byte) ≠ 0xCB := by decide

/-- The hypotheses inside EncodedAs, for every statement that says an encoding. -/
theorem witness_EncodedAs : (base.place base.pc [0x06, 0xDD]).run = .running ∧
    (base.place base.pc [0x06, 0xDD]).params.decodeSet = .full ∧
    BytesAt (base.place base.pc [0x06, 0xDD]) [0x06, 0xDD] ∧
    readByte { base.place 0xDFFF [0x06] with pc := 0xDFFF } 0xDFFF = .ok 0x06 ∧ Unmapped (0xDFFF + 1) :=
  ⟨rfl, rfl, by unfold BytesAt; decide, rfl, by decide⟩

theorem witness_StepRunsDecodedInstruction :
    (base.place base.pc [0x78]).run = .running ∧
    decode (base.place base.pc [0x78]).params.decodeSet [0x78] = .ok (.ldAB, []) ∧ Instr.ldAB ≠ .prefixCb ∧
    BytesAt (base.place base.pc [0x78]) [0x78] :=
  ⟨rfl, rfl, by decide, by unfold BytesAt; decide⟩

theorem witness_FetchFromUnmappedFaults :
    (base.run = .running ∧ Unmapped (base.setPc 0xE000).pc) ∧
    ((base.setPc 0xDFFF).params.decodeSet = .full ∧ readByte ((base.setPc 0xDFFF).place 0xDFFF [0xCB]) 0xDFFF = .ok 0xCB ∧
      2 ≤ lengthOf 0xCB ∧ Unmapped (0xDFFF + 1)) ∧
    (readByte ((base.setPc 0xDFFE).place 0xDFFE [0xC3]) 0xDFFE = .ok 0xC3 ∧ lengthOf 0xC3 = 3 ∧
      Readable (0xDFFE + 1) ∧ Unmapped (0xDFFE + 2)) :=
  ⟨⟨rfl, by decide⟩, ⟨rfl, rfl, by decide, by decide⟩, rfl, rfl, by decide, by decide⟩

theorem witness_MemReadFollowsRegionTable :
    InIo 0xFF00 ∧ ioBacked base.params 0xFF00 = true ∧ InIo 0xFF70 ∧ ioBacked base.params 0xFF70 = true ∧
    InIo 0xFF7F ∧ ioBacked base.params 0xFF7F = false ∧ InIo 0xFF03 ∧ ioBacked base.params 0xFF03 = false := by decide

theorem witness_SixteenBitAccessIsLittleEndian :
    (Writable 0xDFFE ∧ Writable (0xDFFE + 1) ∧ hasStorage base.params 0xDFFE = true ∧
      hasStorage base.params (0xDFFE + 1) = true) ∧
    (Writable 0xDFFF ∧ Unmapped (0xDFFF + 1)) ∧ (Readable 0xFF7F ∧ Unmapped (0xFF7F + 1)) := by decide

/-- A state whose ROM holds an image of one byte. -/
def romState : State := { State.reset with mem := [(0, 0x3C)] }

theorem romState_holds : RomHolds [0x3C] romState := by
  intro k hk
  have ha : (BitVec.ofNat 16 k).toNat = k := by rw [BitVec.toNat_ofNat]; omega
  rw [readByte_low _ (by omega), ha]
  rcases k with _ | k <;> simp [romState, Memory.read]

theorem witness_RomHoldsTheImageAfterEveryStep :
    RomHolds [0x3C] romState ∧ InRom 0x7FFF ∧ step romState = .next (nextState romState) :=
  ⟨romState_holds, by decide, rfl⟩

theorem witness_PairViewsAreInverse : Reg16.bc ≠ .hl ∧ Reg8.a ≠ .b := by decide

theorem witness_ByteStores :
    (Writable (pointing 0x8000).hl ∧ InRom (pointing 0x7FFF).hl ∧ Unmapped (pointing 0xE000).hl) ∧
    (Writable ((pointing 0xDFFF).reg16 .bc) ∧ InRom ((pointing 0x0000).reg16 .de) ∧ Unmapped ((pointing 0xFFFF).reg16 .de)) ∧
    Writable (BitVec.ofNat 16 (0xFF00 + (0x7F : Byte).toNat)) ∧ Unmapped (BitVec.ofNat 16 (0xFF00 + (0x80 : Byte).toNat)) ∧
    Writable (BitVec.ofNat 16 (0xFF00 + (pointing 0x007F).c.toNat)) ∧
    Unmapped (BitVec.ofNat 16 (0xFF00 + (pointing 0x0080).c.toNat)) := by decide

theorem witness_ByteLoads :
    readByte (holding (pointing 0xDFFF) 0xDFFF [0x5A]) (pointing 0xDFFF).hl = .ok 0x5A ∧
    readByte (pointing 0x7FFF) ((pointing 0x7FFF).reg16 .bc) = .ok 0x00 ∧
    readByte base (BitVec.ofNat 16 (0xFF00 + (0x7F : Byte).toNat)) = .ok 0x00 ∧
    Unmapped ((pointing 0xE000).reg16 .de) := ⟨rfl, rfl, rfl, by decide⟩

theorem witness_LoadImmediateIntoPair : Reg16.hl ≠ .sp := by decide

theorem witness_StoreStackPointer :
    Writable 0x8000 ∧ Writable (0x8000 + 1) ∧ Writable 0xFF7E ∧ Writable (0xFF7E + 1) ∧ InRom 0x7FFF ∧ Unmapped 0xFFFF ∧
    Writable 0xFF7F ∧ Unmapped (0xFF7F + 1) := by decide

/-- The hypotheses on SP of PushStoresHighByteFirst, CallsAndRestarts and ConditionalCall. -/
theorem witness_PushStoresHighByteFirst :
    (Writable (base.sp - 1) ∧ Writable (base.sp - 2)) ∧ InRom ((base.setSp 0x8000).sp - 1) ∧
    Unmapped ((base.setSp 0xFFFE).sp - 1) ∧
    (Writable ((base.setSp 0x8001).sp - 1) ∧ InRom ((base.setSp 0x8001).sp - 2)) ∧
    (Writable ((base.setSp 0xFF01).sp - 1) ∧ Unmapped ((base.setSp 0xFF01).sp - 2)) := by decide

/-- The hypotheses on SP of PopLoadsLowByteFirst, Returns and ConditionalReturn. -/
theorem witness_PopLoadsLowByteFirst :
    (readByte (base.setSp 0xDFFE) 0xDFFE = .ok 0x00 ∧ readByte (base.setSp 0xDFFE) (0xDFFE + 1) = .ok 0x00) ∧
    Unmapped (base.setSp 0xFFFE).sp ∧ (Readable (base.setSp 0xDFFF).sp ∧ Unmapped ((base.setSp 0xDFFF).sp + 1)) ∧
    (StackReg.de, Reg16.de) ∈ [(StackReg.bc, Reg16.bc), (.de, .de), (.hl, .hl)] :=
  ⟨⟨rfl, rfl⟩, by decide, by decide, by decide⟩

/-- The hypotheses on HL of MemoryIncrementAndDecrement, AccumulatorOperations, TableRotatesAndShifts, BitTest and
BitResetAndSet. -/
theorem witness_operand_at_hl :
    (Writable (pointing 0xDFFF).hl ∧ readByte (holding (pointing 0xDFFF) 0xDFFF [0xFF]) (pointing 0xDFFF).hl = .ok 0xFF) ∧
    (Writable (pointing 0xFF7F).hl ∧ readByte (pointing 0xFF7F) (pointing 0xFF7F).hl = .ok 0x00) ∧
    InRom (pointing 0x7FFF).hl ∧ Unmapped (pointing 0xE000).hl :=
  ⟨⟨by decide, rfl⟩, ⟨by decide, rfl⟩, by decide, by decide⟩

theorem witness_DecimalAdjust : base.flagN = false ∧ { base with f := 0x40 }.flagN = true := by decide

theorem witness_AddThenAdjustAddsDecimals : 99 < 100 ∧ { base with a := 0x99 }.a = packed 99 := by decide

theorem witness_PairIncrementAndDecrement : Reg16.de ≠ .sp := by decide

theorem witness_AccumulatorRotates : (Instr.rra, RotOp.rr, (0x1F : Byte)) ∈
    [(Instr.rlca, RotOp.rlc, (0x07 : Byte)), (.rrca, .rrc, 0x0F), (.rla, .rl, 0x17), (.rra, .rr, 0x1F)] := by decide

/-- The hypotheses on the condition of ConditionalCall and ConditionalReturn, both ways. -/
theorem witness_conditions :
    base.cond .nz = true ∧ base.cond .z = false ∧ base.cond .nc = true ∧ base.cond .c = false ∧
    { base with f := 0x90 }.cond .z = true ∧ { base with f := 0x90 }.cond .c = true := by decide

theorem witness_ConditionalJumps : true = (!base.flagZ) ∧ false = base.flagC := by decide

/-- The hypothesis inside After, for every statement that says an instruction completes. -/
theorem witness_After : base.eiPending = false := rfl

theorem witness_EscapeRunsTheTableInstruction :
    readByte (base.place (base.pc + 1) [0x87]) (base.pc + 1) = .ok 0x87 ∧ Unmapped ((base.setPc 0xDFFF).pc + 1) ∧
    base.params.decodeSet = .full ∧ (0x87 : Byte) = 0b10#2 ++ idxField .i0 ++ regField .a := ⟨rfl, by decide, rfl, rfl⟩

theorem witness_InvalidFollowsItsPolicy : base.params.invalidPolicy = .fault ∧
    { Params.default with invalidPolicy := .nop }.invalidPolicy = .nop := by decide

theorem witness_reset_inv : State.reset.Inv :=
  ⟨rfl, fun _ h => (List.not_mem_nil h).elim, rfl, by unfold State.RecordMatches; decide⟩

theorem witness_StepKeepsInvariant : State.reset.Inv ∧ step State.reset = .next (nextState State.reset) :=
  ⟨witness_reset_inv, rfl⟩

theorem witness_ConstructionMeetsInvariant : construct Params.default [] = .next State.reset := rfl

theorem witness_ConstructionLoadsTheImage :
    (List.replicate 32768 (0 : Byte)).length ≤ 32768 ∧ 32768 < (List.replicate 32769 (0 : Byte)).length := by
  simp only [List.length_replicate]
  decide

theorem witness_FaultsArePrecise : base.run = .running ∧
    step (base.place base.pc [0xD3]) = .next (nextState (base.place base.pc [0xD3])) ∧
    (nextState (base.place base.pc [0xD3])).run = .faulted := ⟨rfl, rfl, rfl⟩

theorem witness_EndedRunsStayEnded : (base.setRun .stopped).run ≠ .running ∧ (base.setRun .faulted).run ≠ .running := by
  decide

theorem witness_ChargesFollowTheCycleGrids : Instr.nop ≠ .prefixCb ∧ base.run = .running ∧
    (∃ t, exec .nop base = .next t ∧ t.run ≠ .faulted) ∧ ∃ t, exec (.invalid 0x00D3) base = .next t ∧ t.run = .faulted :=
  ⟨by decide, rfl, ⟨_, rfl, by decide⟩, _, rfl, rfl⟩

theorem witness_OnlyDiEiRetiTouchInterruptEnable : Instr.stop ≠ .di ∧ Instr.stop ≠ .ei ∧ Instr.stop ≠ .reti ∧
    base.run = .running ∧ (∃ t, exec .stop base = .next t ∧ t.run ≠ .faulted) ∧
    ∃ t, exec .reti base = .next t ∧ t.run ≠ .faulted :=
  ⟨by decide, by decide, by decide, rfl, ⟨_, rfl, by decide⟩, _, rfl, by decide⟩

theorem witness_OnlyListedInstructionsWriteSp : writesSp .addAB = false ∧ ∃ t, exec .addAB base = .next t := ⟨rfl, _, rfl⟩

theorem witness_OnlyListedInstructionsWriteFlags : Instr.pushBc ≠ .prefixCb ∧ writesFlags .pushBc = false ∧
    (∃ t, exec .pushBc base = .next t) ∧ base.run = .running ∧
    ∃ t, exec .pushBc (base.setSp 0) = .next t ∧ t.run = .faulted :=
  ⟨by decide, rfl, ⟨_, rfl⟩, rfl, _, rfl, rfl⟩

theorem witness_HostWritesOnlyBackedIo : (InIo 0xFF01 ∧ ioBacked base.params 0xFF01 = true) ∧
    ¬(InIo 0xFF03 ∧ ioBacked base.params 0xFF03 = true) ∧ ¬(InIo 0xC000 ∧ ioBacked base.params 0xC000 = true) := by decide

theorem witness_SessionsKeepInvariantAndRom : State.reset.Inv ∧ RomHolds [] State.reset ∧
    ∃ t, runSession State.reset [.step, .hostWrite 0xFF01 0x05, .step] = some t :=
  ⟨witness_reset_inv, fun k hk => by
    rw [readByte_low _ (by rw [BitVec.toNat_ofNat]; omega)]
    simp [State.reset, State.initial, Memory.read], _, rfl⟩

theorem witness_StepReportsItsOutcome : base.run = .running ∧ fetchInstr (base.setPc 0xE000) = .error ⟨.readUnmapped, 0xE000⟩ ∧
    fetchInstr base = .ok .nop ∧ (∃ t, exec .nop base = .next t ∧ t.run = .running) ∧
    (fetchInstr (base.place base.pc [0x10]) = .ok .stop ∧
      ∃ t, exec .stop (base.place base.pc [0x10]) = .next t ∧ t.run = .stopped) ∧
    (fetchInstr (base.place base.pc [0x76]) = .ok .halt ∧
      ∃ t, exec .halt (base.place base.pc [0x76]) = .next t ∧ t.run = .halted) ∧
    (fetchInstr (base.place base.pc [0xFD]) = .ok (.invalid 0x00FD) ∧
      ∃ t, exec (.invalid 0x00FD) (base.place base.pc [0xFD]) = .next t ∧ t.run = .faulted) :=
  ⟨rfl, rfl, rfl, ⟨_, rfl, rfl⟩, ⟨rfl, _, rfl, rfl⟩, ⟨rfl, _, rfl, rfl⟩, rfl, _, rfl, rfl⟩

end Sys2Proof.Tests
end

/-! # Proofs: the state (spec/10_state.md) -/

/-! ## Lemmas: what every step keeps, and what the CB table may write -/

namespace Sys2Proof.Machine

/-! ### The CB table writes neither SP nor IME nor EI_PENDING -/

/-- An instruction of the CB table (R108), or Invalid in its place (R110, R306). -/
theorem decodeCb_cases (ds : DecodeSet) (o : Byte) :
    (∃ code, decodeCb ds o = .invalid code) ∨ (∃ op x, decodeCb ds o = .ofRot op x) ∨
      (∃ b x, decodeCb ds o = .ofBit b x) ∨ (∃ b x, decodeCb ds o = .ofRes b x) ∨ ∃ b x, decodeCb ds o = .ofSet b x := by
  cases ds with
  | documented => exact .inl ⟨_, rfl⟩
  | full =>
    unfold decodeCb
    generalize fieldX o = x
    rcases x with _ | _ | _ | _
    · exact .inr (.inl ⟨_, _, rfl⟩)
    · exact .inr (.inr (.inl ⟨_, _, rfl⟩))
    · exact .inr (.inr (.inr (.inl ⟨_, _, rfl⟩)))
    · exact .inr (.inr (.inr (.inr ⟨_, _, rfl⟩)))

/-- R25 and R28 name no instruction of the CB table. -/
theorem decodeCb_writes (ds : DecodeSet) (o : Byte) :
    writesSp (decodeCb ds o) = false ∧ writesInterruptEnable (decodeCb ds o) = false := by
  rcases decodeCb_cases ds o with ⟨code, h⟩ | ⟨op, x, h⟩ | ⟨b, x, h⟩ | ⟨b, x, h⟩ | ⟨b, x, h⟩ <;> rw [h]
  · exact ⟨rfl, rfl⟩
  · cases op <;> rcases x with ⟨⟨⟩⟩ | _ <;> exact ⟨rfl, rfl⟩
  all_goals cases b <;> rcases x with ⟨⟨⟩⟩ | _ <;> exact ⟨rfl, rfl⟩

/-- Every instruction, the escape included, completes writing SP, IME and EI_PENDING only where R25 and R28 name it, or
takes a fault. -/
theorem exec_cases_sp_ie {i : Instr} {s t : State} (h : exec i s = .next t) :
    (∃ wf u cost, Effect wf (writesSp i) (writesInterruptEnable i) s u ∧ t = u.complete s.eiPending cost) ∨
      ∃ e, t = s.takeFault e := by
  by_cases hi : i = .prefixCb
  · subst hi
    rw [exec_prefixCb] at h
    split at h
    · exact .inr ⟨_, (Host.Outcome.next.inj h).symm⟩
    · next o _ =>
      obtain ⟨hsp, hie⟩ := decodeCb_writes s.params.decodeSet o
      exact (exec_cases (decodeCb_ne_prefixCb _ o) h).imp
        (fun ⟨u, he, ht⟩ => ⟨_, u, _, he.mono id (fun _ => hsp) (fun _ => hie), ht⟩) id
  · exact (exec_cases hi h).imp (fun ⟨u, he, ht⟩ => ⟨_, u, _, he, ht⟩) id

theorem writesInterruptEnable_eq_false {i : Instr} (hdi : i ≠ .di) (hei : i ≠ .ei) (hreti : i ≠ .reti) :
    writesInterruptEnable i = false := by
  unfold writesInterruptEnable
  split
  · exact absurd rfl hdi
  · exact absurd rfl hei
  · exact absurd rfl hreti
  · rfl

/-! ### IME and EI_PENDING at the end of an instruction (R28, R141) -/

/-- A body that writes neither IME nor EI_PENDING leaves them to the promotion. -/
theorem Effect.complete_ie {wf wsp : Bool} {s u : State} (h : Effect wf wsp false s u) (cost : Nat) :
    (u.complete s.eiPending cost).ime = (s.ime || s.eiPending) ∧ (u.complete s.eiPending cost).eiPending = false := by
  obtain ⟨hime, hei⟩ := h.ie rfl
  simp [hime, hei]

/-- RETI completes with IME set and no EI pending, or takes a fault (R290). -/
theorem returnEnable_cases {s t : State} (h : returnEnable s = .next t) :
    (t.ime = true ∧ t.eiPending = false) ∨ ∃ e, t = s.takeFault e := by
  rcases runInstr_cases h with ⟨u, hu, rfl⟩ | hfault
  · obtain ⟨v, hv, rfl⟩ := map_ok hu
    have hpop : Effect false true false _ v := .popPc hv
    have hei : v.eiPending = s.eiPending := (hpop.ie rfl).2
    exact .inl (by simp [hei])
  · exact .inr hfault

/-! ### The run state of an instruction that completes -/

/-- A body never enters FAULTED (R137). -/
theorem Effect.run_ne_faulted {wf wsp wie : Bool} {s t : State} (h : Effect wf wsp wie s t) (hs : s.run ≠ .faulted) :
    t.run ≠ .faulted := by
  rcases h.run with hr | hr | hr <;> rw [hr]
  · exact hs
  · decide
  · decide

/-! ### The invariant -/

/-- The effect of a body keeps the invariant of a machine that is not FAULTED. -/
theorem Effect.inv {wf wsp wie : Bool} {s t : State} (h : Effect wf wsp wie s t) (hs : s.run ≠ .faulted)
    (hinv : s.Inv) : t.Inv := by
  obtain ⟨hwf, hplaced, hlow, hrecord⟩ := hinv
  obtain ⟨hwf', hplaced'⟩ := h.mem.placed hwf hplaced
  refine ⟨hwf', ?_, h.low hlow, ?_⟩
  · unfold State.MemPlaced
    rwa [h.params]
  · unfold State.RecordMatches
    rw [h.fault]
    exact hrecord.trans (iff_of_false hs (h.run_ne_faulted hs))

/-- The invariant speaks of memory, the parameters, F, the record and the run state only, so completing keeps it. -/
theorem State.inv_complete {s : State} (hinv : s.Inv) (arm : Bool) (cost : Nat) : (s.complete arm cost).Inv := by
  rw [State.complete_eq]
  exact hinv

/-- Taking a fault enters FAULTED and writes the record (R30, R137), so it keeps the invariant. -/
theorem State.inv_takeFault {s : State} (hinv : s.Inv) (e : Abort) : (s.takeFault e).Inv := by
  obtain ⟨hwf, hplaced, hlow, -⟩ := hinv
  exact ⟨hwf, hplaced, hlow, iff_of_true rfl rfl⟩

/-! ### AF (R23, R24) -/

/-- Masking a pair is masking its halves. -/
theorem pair_and (a b c d : Byte) : pair a b &&& pair c d = pair (a &&& c) (b &&& d) := BitVec.and_append

/-- AF reads back what was written to it, without bits 3:0. -/
theorem State.setStackReg_af_stackReg (s : State) (v : Word) :
    (s.setStackReg .af v).stackReg .af = v &&& 0xFFF0 := by
  calc pair (hiByte v) (loByte v &&& 0xF0 &&& 0xF0)
    _ = pair (hiByte v &&& 0xFF) (loByte v &&& 0xF0) := by
      rw [BitVec.and_assoc, BitVec.and_self]
      exact congrArg (pair · _) BitVec.and_allOnes.symm
    _ = pair (hiByte v) (loByte v) &&& pair 0xFF 0xF0 := (pair_and _ _ _ _).symm
    _ = v &&& 0xFFF0 := by
      rw [pair_hiByte_loByte]
      rfl

end Sys2Proof.Machine

/-! ## The obligations -/

namespace Sys2Proof.Proofs

open Sys2Proof.Machine Sys2Proof.Claims

/-- Settles O48, by the cases of a step: nothing, an instruction that completes, or a fault taken. -/
theorem stepKeepsInvariant : Obligations.StepKeepsInvariant := by
  intro s t hinv hstep
  rcases step_cases hstep with rfl | ⟨hrun, ⟨_, u, -, heff, rfl⟩ | ⟨e, rfl⟩⟩
  · exact hinv
  · exact State.inv_complete (heff.inv (by simp [hrun]) hinv) _ _
  · exact State.inv_takeFault hinv e

/-- Settles O55: the promotion at the end is all that touches them but for DI, EI and RETI, and RETI sets IME first. -/
theorem onlyDiEiRetiTouchInterruptEnable : Obligations.OnlyDiEiRetiTouchInterruptEnable := by
  intro i s t _ hexec hok
  refine ⟨fun hdi hei hreti => ?_, fun hreti => ?_⟩
  · rcases exec_cases_sp_ie hexec with ⟨_, u, cost, heff, rfl⟩ | ⟨e, rfl⟩
    · rw [writesInterruptEnable_eq_false hdi hei hreti] at heff
      exact heff.complete_ie cost
    · exact absurd rfl hok
  · subst hreti
    rcases returnEnable_cases hexec with h | ⟨e, rfl⟩
    · exact h
    · exact absurd rfl hok

/-- Settles O56, by the effect of an instruction that completes; a fault leaves SP as it was. -/
theorem onlyListedInstructionsWriteSp : Obligations.OnlyListedInstructionsWriteSp := by
  intro i s t hsp hexec
  rcases exec_cases_sp_ie hexec with ⟨_, u, cost, heff, rfl⟩ | ⟨e, rfl⟩
  · exact (State.complete_sp u _ _).trans (heff.sp hsp)
  · rfl

/-- Settles O57: an instruction that completes writes F only where R32 names it and does not end FAULTED; one that faults
leaves F as it was. -/
theorem onlyListedInstructionsWriteFlags : Obligations.OnlyListedInstructionsWriteFlags := by
  intro i s t hi hexec
  rcases exec_cases hi hexec with ⟨u, heff, rfl⟩ | ⟨e, rfl⟩
  · refine ⟨fun hf => (State.complete_f u _ _).trans (heff.f hf), fun hrun hfaulted => ?_⟩
    rw [State.complete_run] at hfaulted
    exact absurd hfaulted (heff.run_ne_faulted (by simp [hrun]))
  · exact ⟨fun _ => rfl, fun _ _ => rfl⟩

/-- Settles O13, by the laws of {hi, lo} and of the register writes. -/
theorem pairViewsAreInverse : Obligations.PairViewsAreInverse := by
  intro s v
  refine ⟨⟨pair_toNat _ _, pair_toNat _ _, pair_toNat _ _⟩, fun r => State.setReg16_reg16_same s r v,
    fun r q hq => State.setReg16_reg16_ne s r v q hq, ⟨rfl, rfl⟩, ⟨rfl, rfl⟩, ⟨rfl, rfl⟩, ⟨rfl, rfl⟩,
    State.setStackReg_af_stackReg s v, fun r q n hq => ?_⟩
  rw [State.setReg8_reg8, if_neg hq]

/-- Settles O14, by the laws of the flag update. -/
theorem flagUpdateTouchesOnlyGivenFlags : Obligations.FlagUpdateTouchesOnlyGivenFlags := fun s z n h c =>
  ⟨⟨State.setFlags_flagZ s z n h c, State.setFlags_flagN s z n h c, State.setFlags_flagH s z n h c,
    State.setFlags_flagC s z n h c, packFlags_low _ _ _ _⟩, rfl⟩

/-- Settles O50: the registers by evaluation; the reset memory lists nothing, so that a read that answers answers 0x00. -/
theorem resetHoldsTheTabledValues : Obligations.ResetHoldsTheTabledValues := by
  have hread : ∀ a, Readable a → readByte State.reset a = .ok 0 := by
    intro a ha
    have hmapped : regionOf a ≠ .unmapped := by
      rw [ne_eq, regionOf_eq_unmapped_iff]
      omega
    rw [readByte_eq, if_neg hmapped]
    exact ite_self _
  exact ⟨rfl, ⟨rfl, rfl, rfl, rfl, rfl⟩, rfl, rfl, rfl, rfl, rfl, rfl, rfl, rfl, rfl, rfl, rfl, rfl, rfl, rfl, hread⟩

end Sys2Proof.Proofs

/-! # Proofs: the memory (spec/20_memory.md) -/

/-! ## Lemmas: 16-bit reads, ROM, and what the host may write -/

namespace Sys2Proof.Machine

/-! ### MemRead(addr, 2) (R69) -/

/-- A 16-bit read that completes has its low byte from the lower address. -/
theorem readWord_spec {s : State} {a : Word} {lo hi : Byte} (hlo : readByte s a = .ok lo)
    (hhi : readByte s (a + 1) = .ok hi) : readWord s a = .ok (pair hi lo) := by
  simp only [readWord, hlo, hhi]

/-- A 16-bit read faults as its first read that fails (R69, R327). -/
theorem readWord_first {s : State} {a : Word} {e : Abort} (h : readByte s a = .error e) : readWord s a = .error e := by
  simp only [readWord, h]

theorem readWord_second {s : State} {a : Word} {lo : Byte} {e : Abort} (hlo : readByte s a = .ok lo)
    (hhi : readByte s (a + 1) = .error e) : readWord s a = .error e := by
  simp only [readWord, hlo, hhi]

/-! ### What a step answers, and what it leaves in ROM -/

theorem Shape.answers {wf wsp wie : Bool} {out : Host.Outcome State Fault Refusal} {s : State} {cost : Nat}
    (h : Shape wf wsp wie out s cost) : ∃ t, out = .next t := by
  obtain ⟨len, body, rfl, -⟩ := h
  unfold runInstr
  split <;> exact ⟨_, rfl⟩

/-- An instruction answers a next state (R137). -/
theorem exec_answers (i : Instr) (s : State) : ∃ t, exec i s = .next t := by
  by_cases hi : i = .prefixCb
  · subst hi
    rw [exec_prefixCb]
    split
    · exact ⟨_, rfl⟩
    · exact (exec_shape _ (decodeCb_ne_prefixCb _ _) s).answers
  · exact (exec_shape i hi s).answers

/-- step() answers a next state from every state (R130). -/
theorem step_answers (s : State) : ∃ t, step s = .next t := by
  unfold step
  cases s.run
  case running =>
    dsimp only
    split
    · exact ⟨_, rfl⟩
    · exact exec_answers _ s
  all_goals exact ⟨_, rfl⟩

theorem step_eq_nextState (s : State) : step s = .next (nextState s) := by
  obtain ⟨t, ht⟩ := step_answers s
  simp only [nextState, ht]

/-- The effect of a body leaves every ROM byte as it was (R64). -/
theorem Effect.readByte_rom {wf wsp wie : Bool} {s t : State} (h : Effect wf wsp wie s t) {a : Word}
    (ha : a.toNat ≤ 0x7FFF) : readByte t a = readByte s a := by
  have hread : t.mem.read a.toNat = s.mem.read a.toNat := h.mem.read_rom (by omega)
  rw [readByte_low t (by omega), readByte_low s (by omega), hread]

/-- No step changes a ROM byte (R64): an instruction that completes stores outside ROM, and a fault stores nothing. -/
theorem readByte_step_rom {s t : State} (h : step s = .next t) {a : Word} (ha : a.toNat ≤ 0x7FFF) :
    readByte t a = readByte s a := by
  rcases step_cases h with rfl | ⟨-, ⟨_, u, -, heff, rfl⟩ | ⟨e, rfl⟩⟩
  · rfl
  · rw [readByte_complete]
    exact heff.readByte_rom ha
  · exact readByte_takeFault s e a

/-! ### The host's port (R82) -/

theorem isBackedIo_iff (s : State) (a : Word) :
    isBackedIo s a = true ↔ (0xFF00 ≤ a.toNat ∧ a.toNat ≤ 0xFF7F) ∧ ioBacked s.params a = true := by
  rw [isBackedIo, Bool.and_eq_true, beq_iff_eq, regionOf_eq_io_iff]

/-- A backed I/O address has storage (R66). -/
theorem hasStorage_of_isBackedIo {s : State} {a : Word} (h : isBackedIo s a = true) : hasStorage s.params a = true := by
  obtain ⟨⟨hlo, hhi⟩, hbacked⟩ := (isBackedIo_iff s a).1 h
  simp only [hasStorage, regionOf_io hlo hhi, hbacked]

/-- What the host may write is what MemWrite would store there (R63, R82). -/
theorem writeByte_of_hostWriteIo {s t : State} {a : Word} {v : Byte} (h : hostWriteIo s a v = some t) :
    writeByte s a v = .ok t := by
  obtain ⟨hbacked, rfl⟩ : isBackedIo s a = true ∧ s.store a v = t := by simpa [hostWriteIo] using h
  rw [writeByte_writable s (.inr ((isBackedIo_iff s a).1 hbacked).1), if_pos (hasStorage_of_isBackedIo hbacked)]

/-- The host reads back the byte it wrote. -/
theorem hostReadIo_store {s : State} {a : Word} (h : isBackedIo s a = true) (v : Byte) :
    hostReadIo (s.store a v) a = some v := by
  have hbacked : isBackedIo (s.store a v) a = true := h
  rw [hostReadIo, if_pos hbacked, State.store_mem, Memory.read_write, if_pos rfl]

/-! ### Sessions -/

/-- MemWrite keeps the invariant in every run state, FAULTED included. -/
theorem State.inv_writeByte {s t : State} {a : Word} {v : Byte} (hinv : s.Inv) (h : writeByte s a v = .ok t) : t.Inv := by
  rcases writeByte_ok h with rfl | ⟨rfl, hrom, hstorage⟩
  · exact hinv
  · obtain ⟨hwf, hplaced, hlow, hrecord⟩ := hinv
    have hstores : Stores s.params s.mem (s.store a v).mem := .more a v (.none _) hrom hstorage
    obtain ⟨hwf', hplaced'⟩ := hstores.placed hwf hplaced
    exact ⟨hwf', hplaced', hlow, hrecord⟩

/-- No event of a session changes a ROM byte (R64, R82). -/
theorem readByte_applyEvent_rom {s t : State} {e : Event} (h : applyEvent s e = some t) {a : Word}
    (ha : a.toNat ≤ 0x7FFF) : readByte t a = readByte s a := by
  cases e with
  | step =>
    obtain rfl : nextState s = t := Option.some.inj h
    exact readByte_step_rom (step_eq_nextState s) ha
  | hostWrite b v =>
    have heff : Effect false false false s t := .writeByte (writeByte_of_hostWriteIo h)
    exact heff.readByte_rom ha

/-- What every event keeps, a session keeps. -/
theorem runSession_keeps {P : State → Prop} (hP : ∀ s t e, P s → applyEvent s e = some t → P t) {s t : State}
    {events : List Event} (hs : P s) (h : runSession s events = some t) : P t := by
  induction events generalizing s with
  | nil => exact Option.some.inj h ▸ hs
  | cons e rest ih =>
    rw [runSession] at h
    split at h
    · next u hu => exact ih (hP s u e hs hu) h
    · cases h

end Sys2Proof.Machine

/-! ## The obligations -/

namespace Sys2Proof.Proofs

open Sys2Proof.Machine Sys2Proof.Claims

/-- An image that ROM holds stays there while every ROM byte reads as before. -/
theorem romHolds_of_readByte_eq {image : List Byte} {s t : State} (h : RomHolds image s)
    (hread : ∀ a, InRom a → readByte t a = readByte s a) : RomHolds image t := by
  intro k hk
  have hrom : InRom (BitVec.ofNat 16 k) := by
    rw [InRom, BitVec.toNat_ofNat]
    omega
  rw [hread _ hrom, h k hk]

/-- Settles O12: reads and writes by the region table, and a step by the effect of its instruction on ROM. -/
theorem romHoldsTheImageAfterEveryStep : Obligations.RomHoldsTheImageAfterEveryStep := by
  intro image s h
  refine ⟨fun a ha => ?_, fun a v ha => writeByte_rom s ha v,
    fun t ht => romHolds_of_readByte_eq h fun a ha => readByte_step_rom ht ha⟩
  have hread := h a.toNat (by omega)
  rwa [BitVec.ofNat_toNat, BitVec.setWidth_eq] at hread

/-- One event keeps the invariant: a step by O48, a host write as a MemWrite. -/
theorem applyEvent_inv {s t : State} {e : Event} (hinv : s.Inv) (h : applyEvent s e = some t) : t.Inv := by
  cases e with
  | step =>
    obtain rfl : nextState s = t := Option.some.inj h
    exact stepKeepsInvariant s _ hinv (step_eq_nextState s)
  | hostWrite a v => exact State.inv_writeByte hinv (writeByte_of_hostWriteIo h)

/-- Settles O59, by induction on the events: each of them keeps the invariant and every ROM byte. -/
theorem sessionsKeepInvariantAndRom : Obligations.SessionsKeepInvariantAndRom := by
  intro image s t events hinv hrom hrun
  refine runSession_keeps (P := fun u => u.Inv ∧ RomHolds image u) ?_ ⟨hinv, hrom⟩ hrun
  rintro s t e ⟨hinv, hrom⟩ he
  exact ⟨applyEvent_inv hinv he, romHolds_of_readByte_eq hrom fun a ha => readByte_applyEvent_rom he ha⟩

/-- Settles O10, by what MemWrite does on each kind of address. -/
theorem memWriteThenRead : Obligations.MemWriteThenRead := by
  intro s a v
  refine ⟨fun ha => ?_, fun ha => writeByte_rom s ha v, fun ha => writeByte_unmapped s ha v⟩
  obtain ⟨m, hwrite, hread⟩ := writeByte_spec s ha v
  exact ⟨_, hwrite, ⟨(hread a).trans (if_pos rfl), fun x hx => (hread x).trans (if_neg hx)⟩, rfl⟩

/-- Settles O11: each primitive is its two byte accesses in address order. -/
theorem sixteenBitAccessIsLittleEndian : Obligations.SixteenBitAccessIsLittleEndian := by
  intro s a v
  refine ⟨fun ha hb => ?_, fun ha => writeWord_first s (writeByte_rom s ha _),
    fun ha => writeWord_first s (writeByte_unmapped s ha _),
    fun ha hb => writeWord_second s ha fun t => writeByte_unmapped t hb _,
    fun ha => readWord_first (readByte_unmapped s ha), fun ha hb => ?_⟩
  · obtain ⟨m, hwrite, hlo, hhi, hrest⟩ := writeWord_spec s ha hb v
    refine ⟨_, hwrite, ⟨hlo, hhi, hrest⟩, fun hsa hsb => ?_⟩
    rw [kept, if_pos hsa] at hlo
    rw [kept, if_pos hsb] at hhi
    rw [readWord_spec hlo hhi, pair_hiByte_loByte]
  · obtain ⟨lo, hlo⟩ := readByte_answers s ha
    exact readWord_second hlo (readByte_unmapped s hb)

/-- Settles O9, by the read of each kind of address. -/
theorem memReadFollowsRegionTable : Obligations.MemReadFollowsRegionTable := fun s _ =>
  ⟨readByte_low s, fun ⟨hlo, hhi⟩ => readByte_backed s hlo hhi, fun ⟨hlo, hhi⟩ => readByte_unbacked s hlo hhi,
    readByte_unmapped s⟩

/-- Settles O58: the port opens at the backed I/O addresses only, and a write there is one store. -/
theorem hostWritesOnlyBackedIo : Obligations.HostWritesOnlyBackedIo := by
  intro s a v
  refine ⟨fun hio hb => ?_, fun hne => ?_⟩
  · have hbacked : isBackedIo s a = true := (isBackedIo_iff s a).2 ⟨hio, hb⟩
    have hs := hasStorage_of_isBackedIo hbacked
    refine ⟨s.store a v, if_pos hbacked, ⟨?_, fun x hx => ?_⟩, rfl, hostReadIo_store hbacked v⟩
    · rw [readByte_store, if_pos ⟨rfl, hs⟩, heldAt, if_pos hs]
    · rw [readByte_store, if_neg fun h => hx h.1]
  · have hclosed : ¬ isBackedIo s a = true := mt (isBackedIo_iff s a).1 hne
    exact ⟨if_neg hclosed, if_neg hclosed⟩

end Sys2Proof.Proofs

/-! # Proofs: the encoding (spec/30_encoding.md) -/

/-! ## Lemmas: the codes of Invalid, the tag of a byte under either DECODE_SET, and the encoder read back -/

namespace Sys2Proof

open Sys2Proof.Machine

/-! ### Codes (R130, R306) -/

theorem primaryCode_eq_ofNat (o : Byte) : primaryCode o = BitVec.ofNat 16 o.toNat := by
  apply BitVec.eq_of_toNat_eq
  calc (pair 0 o).toNat
    _ = 0 * 256 + o.toNat := pair_toNat 0 o
    _ = (BitVec.ofNat 16 o.toNat).toNat := by
      rw [BitVec.toNat_ofNat]
      omega

theorem cbCode_eq_ofNat (o : Byte) : cbCode o = BitVec.ofNat 16 (0xCB00 + o.toNat) := by
  apply BitVec.eq_of_toNat_eq
  calc (pair 0xCB o).toNat
    _ = 0xCB * 256 + o.toNat := pair_toNat 0xCB o
    _ = (BitVec.ofNat 16 (0xCB00 + o.toNat)).toNat := by
      rw [BitVec.toNat_ofNat]
      omega

/-- Under FULL the codes of Invalid are those of the eleven bytes of R109. -/
theorem invalidCode_full_iff (code : Word) :
    invalidCode .full code = true ↔ ∃ o ∈ illegalOpcodes, code = primaryCode o := by
  simp only [invalidCode, List.any_eq_true, beq_iff_eq]

/-- Under DOCUMENTED the codes of Invalid are those of the undocumented primary bytes and of every CB-table byte (R110). -/
theorem invalidCode_documented_iff (code : Word) :
    invalidCode .documented code = true ↔
      (∃ o, documentedOpcodes.contains o = false ∧ code = primaryCode o) ∨ ∃ o, code = cbCode o := by
  have hunfold : invalidCode .documented code =
      (hiByte code == 0xCB || (hiByte code == 0x00 && !documentedOpcodes.contains (loByte code))) := rfl
  rw [hunfold, Bool.or_eq_true, Bool.and_eq_true, beq_iff_eq, beq_iff_eq, Bool.not_eq_true']
  constructor
  · rintro (hcb | ⟨hzero, hundoc⟩)
    · exact .inr ⟨loByte code, by rw [← pair_hiByte_loByte code, hcb, loByte_pair]; rfl⟩
    · exact .inl ⟨loByte code, hundoc, by rw [← pair_hiByte_loByte code, hzero, loByte_pair]; rfl⟩
  · rintro (⟨o, hundoc, rfl⟩ | ⟨o, rfl⟩)
    · have hlo : loByte (primaryCode o) = o := loByte_pair 0 o
      exact .inr ⟨hiByte_pair 0 o, by rw [hlo, hundoc]⟩
    · exact .inl (hiByte_pair 0xCB o)

/-! ### The tag of a byte (R109, R110, R111) -/

theorem decodeTag_illegal {o : Byte} (h : o ∈ illegalOpcodes) : decodeTag .full o = .invalid := by
  fin_cases h <;> rfl

theorem decodeTag_documented {o : Byte} (h : documentedOpcodes.contains o = true) :
    decodeTag .documented o = decodePrimary o := if_pos h

theorem decodeTag_undocumented {o : Byte} (h : documentedOpcodes.contains o = false) :
    decodeTag .documented o = .invalid := if_neg (by rw [h]; exact Bool.false_ne_true)

/-- The bytes encode the instruction, which is well-formed. -/
def EncodesWf (ds : DecodeSet) (i : Instr) (bytes : List Byte) : Prop :=
  encode i = bytes ∧ WellFormed ds i = true

theorem EncodesWf.append {ds : DecodeSet} {i : Instr} {bytes : List Byte} (h : EncodesWf ds i bytes)
    (rest : List Byte) : bytes ++ rest = encode i ++ rest ∧ WellFormed ds i = true := by
  obtain ⟨henc, hwf⟩ := h
  exact ⟨by rw [henc], hwf⟩

/-- A tag that DECODE_SET leaves gives well-formed instructions. -/
theorem Tagged.encodesWf {o : Byte} {i : Instr} {bytes : List Byte} (h : Tagged o i bytes) {ds : DecodeSet}
    (hds : ds = .documented → documentedOpcodes.contains o = true) : EncodesWf ds i bytes := by
  obtain ⟨henc, hfull, hdoc, -, -⟩ := h
  cases ds with
  | full => exact ⟨henc, hfull⟩
  | documented => exact ⟨henc, hdoc (hds rfl)⟩

/-- What a tag under DECODE_SET says of the bytes it is read from. -/
def TagEncodes (ds : DecodeSet) (o : Byte) : Tag → Prop
  | .op i => EncodesWf ds i [o]
  | .imm8 mk => ∀ n, EncodesWf ds (mk n) [o, n]
  | .imm16 mk => ∀ nn, EncodesWf ds (mk nn) [o, loByte nn, hiByte nn]
  | .escape => o = 0xCB
  | .invalid => EncodesWf ds (.invalid (primaryCode o)) [o]

/-- The tag of the primary map, where DECODE_SET leaves it. -/
theorem decodePrimary_encodes {ds : DecodeSet} {o : Byte}
    (hds : ds = .documented → documentedOpcodes.contains o = true) : TagEncodes ds o (decodePrimary o) := by
  have hagrees := tag_agrees o
  unfold TagAgrees at hagrees
  cases htag : decodePrimary o <;> rw [htag] at hagrees
  case op i =>
    obtain ⟨htagged, -⟩ := hagrees
    exact htagged.encodesWf hds
  case imm8 mk =>
    obtain ⟨htagged, -⟩ := hagrees
    exact fun n => (htagged n).encodesWf hds
  case imm16 mk =>
    obtain ⟨htagged, -⟩ := hagrees
    exact fun nn => (htagged nn).encodesWf hds
  case escape => exact hagrees
  case invalid =>
    obtain ⟨hillegal, hundoc, -⟩ := hagrees
    cases ds with
    | full => exact ⟨encode_invalid_primary o, (invalidCode_full_iff _).2 ⟨o, hillegal, rfl⟩⟩
    | documented => exact absurd (hds rfl) (by rw [hundoc]; exact Bool.false_ne_true)

theorem decodeTag_encodes (ds : DecodeSet) (o : Byte) : TagEncodes ds o (decodeTag ds o) := by
  cases ds with
  | full => exact decodePrimary_encodes fun h => by cases h
  | documented =>
    cases hdoc : documentedOpcodes.contains o with
    | true =>
      rw [decodeTag_documented hdoc]
      exact decodePrimary_encodes fun _ => hdoc
    | false =>
      rw [decodeTag_undocumented hdoc]
      exact ⟨encode_invalid_primary o, (invalidCode_documented_iff _).2 (.inl ⟨o, hdoc, rfl⟩)⟩

theorem decodeCb_encodes (ds : DecodeSet) (o : Byte) : EncodesWf ds (decodeCb ds o) [0xCB, o] := by
  cases ds with
  | full =>
    obtain ⟨henc, hwf, -, -⟩ := cb_agrees o
    exact ⟨henc, hwf⟩
  | documented => exact ⟨encode_invalid_cb o, (invalidCode_documented_iff _).2 (.inr ⟨o, rfl⟩)⟩

/-! ### What the decoder reads, by the tag of the first byte (R132) -/

section
variable {ds : DecodeSet} {o : Byte}

theorem decode_op {i : Instr} (h : decodeTag ds o = .op i) (rest : List Byte) :
    decode ds (o :: rest) = .ok (i, rest) := by simp only [decode, h]

theorem decode_invalid (h : decodeTag ds o = .invalid) (rest : List Byte) :
    decode ds (o :: rest) = .ok (.invalid (primaryCode o), rest) := by simp only [decode, h]

theorem decode_imm8 {mk : Byte → Instr} (h : decodeTag ds o = .imm8 mk) (n : Byte) (rest : List Byte) :
    decode ds (o :: n :: rest) = .ok (mk n, rest) := by simp only [decode, h]

theorem decode_imm16 {mk : Word → Instr} (h : decodeTag ds o = .imm16 mk) (lo hi : Byte) (rest : List Byte) :
    decode ds (o :: lo :: hi :: rest) = .ok (mk (pair hi lo), rest) := by simp only [decode, h]

end

theorem decode_cb (ds : DecodeSet) (o : Byte) (rest : List Byte) :
    decode ds (0xCB :: o :: rest) = .ok (decodeCb ds o, rest) := by cases ds <;> rfl

theorem decode_prefixCb (ds : DecodeSet) : decode ds [0xCB] = .ok (.prefixCb, []) := by cases ds <;> rfl

/-- A documented byte other than the escape decodes as under FULL: only the CB table depends on DECODE_SET further. -/
theorem decode_documented_eq_full {o : Byte} (hdoc : documentedOpcodes.contains o = true) (ho : o ≠ 0xCB)
    (rest : List Byte) : decode .documented (o :: rest) = decode .full (o :: rest) := by
  have htags : decodeTag .documented o = decodeTag .full o := decodeTag_documented hdoc
  cases htag : decodeTag .full o
  case escape =>
    have hencodes := decodeTag_encodes .full o
    rw [htag] at hencodes
    exact absurd hencodes ho
  all_goals simp only [decode, htags, htag]

/-! ### The encoder read back -/

theorem decode_encode_imm16 {o : Byte} {mk : Word → Instr} (h : decodeTag .full o = .imm16 mk) (nn : Word)
    (rest : List Byte) : decode .full (o :: loByte nn :: hiByte nn :: rest) = .ok (mk nn, rest) := by
  rw [decode_imm16 h, pair_hiByte_loByte]

/-- Under FULL the decoder reads every instruction back from its encoding (R107, R108): by evaluation, but for a 16-bit
operand, which the decoder puts together from its two bytes. -/
theorem decode_full_encode {i : Instr} (hprefix : i ≠ .prefixCb) (hinvalid : ∀ code, i ≠ .invalid code)
    (rest : List Byte) : decode .full (encode i ++ rest) = .ok (i, rest) := by
  cases i with
  | prefixCb => exact absurd rfl hprefix
  | invalid code => exact absurd rfl (hinvalid code)
  | ldBcD16 nn | ldDeD16 nn | ldHlD16 nn | ldSpD16 nn | ldAtA16Sp nn | ldAtA16A nn | ldAAtA16 nn | jpA16 nn | jpNzA16 nn
  | jpZA16 nn | jpNcA16 nn | jpCA16 nn | callA16 nn | callNzA16 nn | callZA16 nn | callNcA16 nn | callCA16 nn =>
    exact decode_encode_imm16 rfl nn rest
  | _ => rfl

/-- An instruction is documented by name (R110) as its first byte is by number. -/
theorem documented_eq_head {i : Instr} (hprefix : i ≠ .prefixCb) (hinvalid : ∀ code, i ≠ .invalid code) :
    i.documented = (encode i).head?.any fun o => documentedOpcodes.contains o && o != 0xCB := by
  cases i with
  | prefixCb => exact absurd rfl hprefix
  | invalid code => exact absurd rfl (hinvalid code)
  | _ => rfl

theorem wellFormed_eq {ds : DecodeSet} {i : Instr} (hinvalid : ∀ code, i ≠ .invalid code) :
    WellFormed ds i = (ds == .full || i.documented) := by
  unfold WellFormed
  split
  · exact absurd rfl (hinvalid _)
  · rfl

theorem decode_documented_encode {i : Instr} (hprefix : i ≠ .prefixCb) (hinvalid : ∀ code, i ≠ .invalid code)
    (hdoc : i.documented = true) (rest : List Byte) : decode .documented (encode i ++ rest) = .ok (i, rest) := by
  rw [documented_eq_head hprefix hinvalid, Option.any_eq_true] at hdoc
  obtain ⟨o, hhead, hdoc⟩ := hdoc
  rw [Bool.and_eq_true, bne_iff_ne] at hdoc
  obtain ⟨operands, henc⟩ := List.head?_eq_some_iff.1 hhead
  calc decode .documented (encode i ++ rest)
    _ = decode .full (encode i ++ rest) := by
      rw [henc]
      exact decode_documented_eq_full hdoc.1 hdoc.2 _
    _ = .ok (i, rest) := decode_full_encode hprefix hinvalid rest

/-- Invalid is read back from the byte or the two bytes its code stands for (R306). -/
theorem decode_encode_invalid {ds : DecodeSet} {code : Word} (h : invalidCode ds code = true) (rest : List Byte) :
    decode ds (encode (.invalid code) ++ rest) = .ok (.invalid code, rest) := by
  cases ds with
  | full =>
    obtain ⟨o, hillegal, rfl⟩ := (invalidCode_full_iff _).1 h
    rw [encode_invalid_primary]
    exact decode_invalid (decodeTag_illegal hillegal) rest
  | documented =>
    rcases (invalidCode_documented_iff _).1 h with ⟨o, hundoc, rfl⟩ | ⟨o, rfl⟩
    · rw [encode_invalid_primary]
      exact decode_invalid (decodeTag_undocumented hundoc) rest
    · rw [encode_invalid_cb]
      exact decode_cb .documented o rest

theorem decode_encode {ds : DecodeSet} {i : Instr} (hwf : WellFormed ds i = true) (hprefix : i ≠ .prefixCb)
    (rest : List Byte) : decode ds (encode i ++ rest) = .ok (i, rest) := by
  by_cases hinvalid : ∃ code, i = .invalid code
  · obtain ⟨code, rfl⟩ := hinvalid
    exact decode_encode_invalid hwf rest
  · have hinvalid : ∀ code, i ≠ .invalid code := not_exists.1 hinvalid
    cases ds with
    | full => exact decode_full_encode hprefix hinvalid rest
    | documented =>
      rw [wellFormed_eq hinvalid] at hwf
      exact decode_documented_encode hprefix hinvalid hwf rest

end Sys2Proof

/-! ## The obligations -/

namespace Sys2Proof.Proofs

open Sys2Proof.Machine Sys2Proof.Claims

/-- Settles O1, by the tables of the encoder read back, and the codes of Invalid. -/
theorem decodeOfEncodeIsInstruction : Obligations.DecodeOfEncodeIsInstruction :=
  ⟨fun _ _ rest hwf hprefix => decode_encode hwf hprefix rest, decode_prefixCb⟩

/-- Settles O2, by the tag of the first byte. -/
theorem decodedBytesAreTheEncoding : Obligations.DecodedBytesAreTheEncoding := by
  intro ds bytes i rest h
  rcases bytes with _ | ⟨o, bytes⟩
  · cases h
  have hencodes := decodeTag_encodes ds o
  cases htag : decodeTag ds o <;> rw [htag] at hencodes
  case op j =>
    rw [decode_op htag] at h
    cases h
    exact hencodes.append rest
  case invalid =>
    rw [decode_invalid htag] at h
    cases h
    exact hencodes.append rest
  case imm8 mk =>
    rcases bytes with _ | ⟨n, bytes⟩
    · simp [decode, htag] at h
    rw [decode_imm8 htag] at h
    cases h
    exact (hencodes n).append rest
  case imm16 mk =>
    rcases bytes with _ | ⟨lo, _ | ⟨hi, bytes⟩⟩
    · simp [decode, htag] at h
    · simp [decode, htag] at h
    rw [decode_imm16 htag] at h
    cases h
    have hread := (hencodes (pair hi lo)).append rest
    rwa [hiByte_pair, loByte_pair] at hread
  case escape =>
    obtain rfl : o = 0xCB := hencodes
    rcases bytes with _ | ⟨o2, bytes⟩
    · rw [decode_prefixCb] at h
      cases h
      exact ⟨rfl, by cases ds <;> rfl⟩
    · rw [decode_cb] at h
      cases h
      exact (decodeCb_encodes ds o2).append rest

/-- Settles O3, by the tag of the first byte: it waits for as many bytes as the grid of R107 says. -/
theorem firstByteFixesLength : Obligations.FirstByteFixesLength := by
  intro o n m rest
  have hagrees := tag_agrees o
  unfold TagAgrees at hagrees
  cases htag : decodePrimary o <;> rw [htag] at hagrees
  case op i =>
    obtain ⟨-, hlength⟩ := hagrees
    rw [hlength]
    exact ⟨i, decode_op (ds := .full) htag _⟩
  case imm8 mk =>
    obtain ⟨-, hlength⟩ := hagrees
    rw [hlength]
    exact ⟨mk n, decode_imm8 (ds := .full) htag n _⟩
  case imm16 mk =>
    obtain ⟨-, hlength⟩ := hagrees
    rw [hlength]
    exact ⟨mk (pair m n), decode_imm16 (ds := .full) htag n m _⟩
  case escape =>
    obtain rfl : o = 0xCB := hagrees
    exact ⟨decodeCb .full n, decode_cb .full n _⟩
  case invalid =>
    obtain ⟨-, -, hlength⟩ := hagrees
    rw [hlength]
    exact ⟨.invalid (primaryCode o), decode_invalid (ds := .full) htag _⟩

/-- Settles O4: the eleven bytes have the tag Invalid, and by O2 a byte that decodes to Invalid is one of them. -/
theorem illegalBytesDecodeToInvalid : Obligations.IllegalBytesDecodeToInvalid := by
  refine fun o rest => ⟨fun hillegal => ?_, fun hlegal code rest' h => ?_⟩
  · rw [← primaryCode_eq_ofNat]
    exact decode_invalid (decodeTag_illegal hillegal) rest
  · obtain ⟨hbytes, hwf⟩ := decodedBytesAreTheEncoding _ _ _ _ h
    obtain ⟨o', hillegal, rfl⟩ := (invalidCode_full_iff code).1 hwf
    rw [encode_invalid_primary] at hbytes
    obtain rfl : o = o' := (List.cons.inj hbytes).1
    exact hlegal hillegal

/-- Settles O5, by the tag that DOCUMENTED leaves each byte. -/
theorem documentedSetRestrictsDecoding : Obligations.DocumentedSetRestrictsDecoding := by
  refine ⟨fun o rest hundoc => ?_, fun o rest hdoc ho => decode_documented_eq_full hdoc ho rest, fun o2 rest => ?_⟩
  · rw [← primaryCode_eq_ofNat]
    exact decode_invalid (decodeTag_undocumented hundoc) rest
  · rw [← cbCode_eq_ofNat]
    exact decode_cb .documented o2 rest

/-- Settles O6, by evaluation of the decoder on each word. -/
theorem sampleWordsDecode : Obligations.SampleWordsDecode :=
  ⟨rfl, rfl, rfl, rfl, rfl, rfl, rfl, rfl, rfl, rfl, rfl, rfl, rfl, rfl, rfl, rfl, rfl, rfl⟩

end Sys2Proof.Proofs

/-! # Proofs: execution (spec/40_execution.md) -/

/-! ## Lemmas: the fetch by the length of the instruction, the outcome of a step, and its report -/

namespace Sys2Proof

/-! ### The length of an instruction by the tag of its first byte (R100, R107) -/

/-- How many bytes an instruction has whose first byte has this tag. -/
def Tag.length : Tag → Nat
  | .op _ | .invalid => 1
  | .imm8 _ | .escape => 2
  | .imm16 _ => 3

/-- The grid of R107 gives the length of the tag. -/
theorem lengthOf_eq_tag_length (o : Byte) : lengthOf o = (decodeTag .full o).length := by
  have hagrees := tag_agrees o
  have htags : decodeTag .full o = decodePrimary o := rfl
  rw [htags]
  unfold TagAgrees at hagrees
  cases htag : decodePrimary o <;> rw [htag] at hagrees
  case escape =>
    obtain rfl : o = 0xCB := hagrees
    rfl
  case invalid =>
    obtain ⟨-, -, hlength⟩ := hagrees
    exact hlength
  all_goals
    obtain ⟨-, hlength⟩ := hagrees
    exact hlength

end Sys2Proof

namespace Sys2Proof.Machine

/-! ### A fetch that faults, by the byte it faults at (R131, R133) -/

section
variable {s : State} {o : Byte} {e : Abort}

theorem fetchInstr_first_fault (h : readByte s s.pc = .error e) : fetchInstr s = .error e := by
  simp only [fetchInstr, h]

variable (hds : s.params.decodeSet = .full) (ho : readByte s s.pc = .ok o)
include hds ho

theorem fetchInstr_second_fault (hlength : 2 ≤ lengthOf o) (h : readByte s (s.pc + 1) = .error e) :
    fetchInstr s = .error e := by
  rw [lengthOf_eq_tag_length] at hlength
  cases htag : decodeTag .full o <;> rw [htag] at hlength
  case op | invalid => exact absurd hlength (by decide : ¬ 2 ≤ 1)
  case imm8 | escape => simp only [fetchInstr, hds, ho, htag, h]
  case imm16 => simp only [fetchInstr, hds, ho, htag, readWord_first h]

theorem fetchInstr_third_fault {n : Byte} (hlength : lengthOf o = 3) (hn : readByte s (s.pc + 1) = .ok n)
    (h : readByte s (s.pc + 2) = .error e) : fetchInstr s = .error e := by
  rw [lengthOf_eq_tag_length] at hlength
  rw [← add_one_one] at h
  cases htag : decodeTag .full o <;> rw [htag] at hlength
  case imm16 => simp only [fetchInstr, hds, ho, htag, readWord_second hn h]
  all_goals cases hlength

end

/-! ### A step and its report, by what the fetch answers (R130, R138, R140) -/

theorem run_ended {r : RunState} (h : r ≠ .running) : r = .stopped ∨ r = .halted ∨ r = .faulted := by
  cases r
  case running => exact absurd rfl h
  all_goals decide

section
variable {s t : State} {i : Instr} {e : Abort}

theorem step_of_ended (h : s.run ≠ .running) : step s = .next s := by
  rcases run_ended h with h | h | h <;> simp only [step, h]

theorem stepReport_of_ended (h : s.run ≠ .running) : stepReport s = ⟨0, .notRunning⟩ := by
  rcases run_ended h with h | h | h <;> simp only [stepReport, h]

/-- The run loop takes no step from a run state that has ended (R139). -/
theorem runFuel_of_ended (h : s.run ≠ .running) (k : Nat) : runFuel k s = s := by
  cases k with
  | zero => rfl
  | succ k => rcases run_ended h with h | h | h <;> simp only [runFuel, h]

variable (hrun : s.run = .running)
include hrun

theorem step_of_fetch_error (h : fetchInstr s = .error e) : step s = .next (s.takeFault e) := by
  simp only [step, hrun, h]

theorem step_of_fetch_ok (h : fetchInstr s = .ok i) : step s = exec i s := by
  simp only [step, hrun, h]

theorem stepReport_of_fetch_error (h : fetchInstr s = .error e) : stepReport s = ⟨0, .fault e.kind⟩ := by
  simp only [stepReport, hrun, h]

theorem stepReport_of_exec (h : fetchInstr s = .ok i) (hexec : exec i s = .next t) :
    stepReport s = ⟨t.cycles - s.cycles, outcomeOf i t⟩ := by
  simp only [stepReport, hrun, h, hexec]

/-- From RUNNING only taking a fault enters FAULTED (R137): an instruction that completes does not. -/
theorem step_faulted (hstep : step s = .next t) (hfaulted : t.run = .faulted) : ∃ e, t = s.takeFault e := by
  have hs : s.run ≠ .faulted := by simp [hrun]
  rcases step_cases hstep with rfl | ⟨-, ⟨_, u, -, heff, rfl⟩ | hfault⟩
  · exact absurd hfaulted hs
  · rw [State.complete_run] at hfaulted
    exact absurd hfaulted (heff.run_ne_faulted hs)
  · exact hfault

end

/-! ### The outcome, by the run state an instruction leaves (R140) -/

section
variable {t : State} {i : Instr}

theorem outcomeOf_stopped (h : t.run = .stopped) : outcomeOf i t = .stopped := by simp only [outcomeOf, h]

theorem outcomeOf_halted (h : t.run = .halted) : outcomeOf i t = .halted := by simp only [outcomeOf, h]

theorem outcomeOf_takeFault (i : Instr) (s : State) (e : Abort) : outcomeOf i (s.takeFault e) = .fault e.kind := rfl

theorem outcomeOf_invalid (h : t.run = .running) (code : Word) : outcomeOf (.invalid code) t = .decodeGap code := by
  simp only [outcomeOf, h]

theorem outcomeOf_executed (h : t.run = .running) (hi : ∀ code, i ≠ .invalid code) :
    outcomeOf i t = .executed := by
  unfold outcomeOf
  rw [h]
  split
  case h_5 => exact absurd rfl (hi _)
  case h_6 => rfl
  all_goals contradiction

end

end Sys2Proof.Machine

/-! ## The obligations -/

namespace Sys2Proof.Proofs

open Sys2Proof.Machine Sys2Proof.Claims

/-- Settles O8, by the byte the fetch faults at; the record is that of the fault taken. -/
theorem fetchFromUnmappedFaults : Obligations.FetchFromUnmappedFaults := by
  intro s hrun
  refine ⟨fun hpc => ?_, fun hds o ho hlength hsecond => ?_, fun hds o ho hlength hsecond hthird => ?_⟩
  · exact step_of_fetch_error hrun (fetchInstr_first_fault (readByte_unmapped s hpc))
  · exact step_of_fetch_error hrun (fetchInstr_second_fault hds ho hlength (readByte_unmapped s hsecond))
  · obtain ⟨n, hn⟩ := readByte_answers s hsecond
    exact step_of_fetch_error hrun (fetchInstr_third_fault hds ho hlength hn (readByte_unmapped s hthird))

/-- Settles O52, by the definition of taking a fault and the cases of a step. -/
theorem faultsArePrecise : Obligations.FaultsArePrecise := fun s =>
  ⟨fun _ => rfl, step_answers s, fun _ => step_faulted⟩

/-- Settles O60, by what the fetch answers, and the outcome by the run state; the record of a fault is that of O52. -/
theorem stepReportsItsOutcome : Obligations.StepReportsItsOutcome := by
  intro s hrun
  refine ⟨fun e => stepReport_of_fetch_error hrun, fun i t hfetch hexec => ?_⟩
  rw [stepReport_of_exec hrun hfetch hexec]
  refine ⟨rfl, outcomeOf_stopped, outcomeOf_halted, fun hfaulted => ?_,
    fun hrunning => ⟨?_, outcomeOf_executed hrunning⟩⟩
  · have hstep : step s = .next t := (step_of_fetch_ok hrun hfetch).trans hexec
    obtain ⟨e, rfl⟩ := step_faulted hrun hstep hfaulted
    exact ⟨e.kind, e.value, rfl, outcomeOf_takeFault i s e⟩
  · rintro code rfl
    exact outcomeOf_invalid hrunning code

/-- Settles O7: the fetch reads what the bytes at PC decode to. -/
theorem stepRunsDecodedInstruction : Obligations.StepRunsDecodedInstruction := fun _ _ _ hrun hdecode hi hbytes =>
  step_of_fetch_ok hrun (fetchInstr_ok hdecode hi hbytes)

/-- Settles O53, by what step(), its report and the run loop do in a run state that has ended. -/
theorem endedRunsStayEnded : Obligations.EndedRunsStayEnded := fun _ h =>
  ⟨step_of_ended h, stepReport_of_ended h, runFuel_of_ended h⟩

end Sys2Proof.Proofs

/-! # Proofs: 8-bit loads and stores (spec/41_loads8.md) -/

/-! ## Lemmas: encodings, what an instruction leaves behind, and the shapes of a load and a store -/

namespace Sys2Proof.Machine

open Sys2Proof.Claims

/-! ### From the decoder to the fetch (R131 to R133) -/

/-- The bytes of an instruction other than the escape alone are as many as its first byte says (R100, R107). -/
theorem decode_full_length {o : Byte} {rest : List Byte} {i : Instr} (h : decode .full (o :: rest) = .ok (i, []))
    (hi : i ≠ .prefixCb) : (o :: rest).length = lengthOf o := by
  rw [lengthOf_eq_tag_length]
  simp only [decode] at h
  cases htag : decodeTag .full o <;> simp only [htag] at h ⊢
  case op | invalid =>
    cases h
    rfl
  case imm8 =>
    rcases rest with _ | ⟨n, rest⟩ <;> cases h
    rfl
  case imm16 =>
    rcases rest with _ | ⟨n, _ | ⟨m, rest⟩⟩ <;> cases h
    rfl
  case escape =>
    rcases rest with _ | ⟨n, rest⟩ <;> cases h
    · exact absurd rfl hi
    · rfl

theorem lengthOf_le_three (o : Byte) : lengthOf o ≤ 3 := by
  rw [lengthOf_eq_tag_length]
  cases decodeTag .full o <;> simp [Tag.length]

/-- A fetch faults at the first byte of the instruction that it cannot read. -/
theorem fetchInstr_fault {s : State} {bytes : List Byte} {i : Instr} {k : Nat} {e : Abort}
    (hds : s.params.decodeSet = .full) (hdecodes : Decodes i bytes) (hi : i ≠ .prefixCb) (hk : k < bytes.length)
    (hbefore : ∀ j (h : j < bytes.length), j < k → readByte s (s.pc + BitVec.ofNat 16 j) = .ok bytes[j])
    (herror : readByte s (s.pc + BitVec.ofNat 16 k) = .error e) : fetchInstr s = .error e := by
  rcases bytes with _ | ⟨o, rest⟩
  · cases hdecodes
  have hlength := decode_full_length hdecodes hi
  have hthree := lengthOf_le_three o
  have hfirst (h : 0 < k) : readByte s s.pc = .ok o := by
    have h0 := hbefore 0 (by omega) h
    rwa [BitVec.add_zero] at h0
  match k with
  | 0 => exact fetchInstr_first_fault (by rwa [BitVec.add_zero] at herror)
  | 1 => exact fetchInstr_second_fault hds (hfirst (by omega)) (by omega) herror
  | 2 => exact fetchInstr_third_fault hds (hfirst (by omega)) (by omega) (hbefore 1 (by omega) (by omega)) herror
  | k + 3 => omega

/-- Whatever the decoder reads from some bytes, but for the escape alone, a step runs from them. -/
theorem encodedAs_of_decodes {i : Instr} {bytes : List Byte} (hdecodes : Decodes i bytes) (hi : i ≠ .prefixCb) :
    EncodedAs i bytes := by
  refine ⟨hdecodes, fun s hrun hds => ⟨fun hbytes => ?_, fun k hk hbefore hunmapped => ?_⟩⟩
  · have hdecode : decode s.params.decodeSet bytes = .ok (i, []) := by
      rw [hds]
      exact hdecodes
    exact step_of_fetch_ok hrun (fetchInstr_ok hdecode hi hbytes)
  · exact step_of_fetch_error hrun
      (fetchInstr_fault hds hdecodes hi hk hbefore (readByte_unmapped s hunmapped))

/-! ### An encoding by the tag of its first byte (R107) -/

section
variable {o : Byte}

/-- Only the tag of the escape reads the escape (R106). -/
theorem encodedAs_of_tag {i : Instr} {rest : List Byte} (hdecodes : Decodes i (o :: rest))
    (htag : decodeTag .full o ≠ .escape) : EncodedAs i (o :: rest) := by
  refine encodedAs_of_decodes hdecodes ?_
  rintro rfl
  obtain ⟨hbytes, -⟩ := Proofs.decodedBytesAreTheEncoding .full _ _ _ hdecodes
  cases hbytes
  exact htag rfl

theorem encodedAs_op {i : Instr} (h : decodeTag .full o = .op i) : EncodedAs i [o] :=
  encodedAs_of_tag (decode_op h []) (by simp [h])

theorem encodedAs_imm8 {mk : Byte → Instr} (h : decodeTag .full o = .imm8 mk) (n : Byte) :
    EncodedAs (mk n) [o, n] :=
  encodedAs_of_tag (decode_imm8 h n []) (by simp [h])

theorem encodedAs_imm16 {mk : Word → Instr} (h : decodeTag .full o = .imm16 mk) (nn : Word) :
    EncodedAs (mk nn) [o, loByte nn, hiByte nn] :=
  encodedAs_of_tag (decode_encode_imm16 h nn []) (by simp [h])

end

/-! ### Completing and faulting, by the body of the instruction (R130, R137) -/

/-- From s to t only the registers other than PC, and memory, may have changed. -/
structure ControlSame (s t : State) : Prop where
  pc : t.pc = s.pc
  cycles : t.cycles = s.cycles
  ime : t.ime = s.ime
  eiPending : t.eiPending = s.eiPending
  run : t.run = s.run
  fault : t.fault = s.fault
  params : t.params = s.params

theorem ControlSame.setReg8 {s t : State} (h : ControlSame s t) (r : Reg8) (v : Byte) :
    ControlSame s (t.setReg8 r v) := by
  obtain ⟨pc, cycles, ime, eiPending, run, fault, params⟩ := h
  constructor <;> simpa

theorem ControlSame.setReg16 {s t : State} (h : ControlSame s t) (r : Reg16) (v : Word) :
    ControlSame s (t.setReg16 r v) := by
  obtain ⟨pc, cycles, ime, eiPending, run, fault, params⟩ := h
  constructor <;> simpa

theorem ControlSame.withMem (s : State) (m : Memory) : ControlSame s { s with mem := m } :=
  ⟨rfl, rfl, rfl, rfl, rfl, rfl, rfl⟩

theorem ControlSame.refl (s : State) : ControlSame s s := .withMem s s.mem

section
variable {i : Instr} {s u : State} {len : Word} {cost : Nat} {body : State → Access State}
variable (hexec : exec i s = runInstr len cost body s)
include hexec

theorem completes_of_body {P : State → Prop} (hbody : body (s.setPc (s.pc + len)) = .ok u)
    (hsame : ControlSame (s.setPc (s.pc + len)) u) (hP : P (u.complete s.eiPending cost)) :
    Completes i s (s.pc + len) cost P := by
  refine ⟨_, hexec.trans (runInstr_ok hbody), ?_, hP⟩
  obtain ⟨pc, cycles, ime, eiPending, run, fault, params⟩ := hsame
  constructor <;> simp +contextual [pc, cycles, ime, eiPending, run, fault, params]

theorem faultsWith_of_body {kind : FaultKind} {value : Word}
    (hbody : body (s.setPc (s.pc + len)) = .error ⟨kind, value⟩) : FaultsWith i s kind value :=
  hexec.trans (runInstr_error hbody)

/-- A body that writes one register leaves all others, F, SP and memory as before. -/
theorem completes_of_setReg8 {r : Reg8} {v : Byte}
    (hbody : body (s.setPc (s.pc + len)) = .ok ((s.setPc (s.pc + len)).setReg8 r v)) :
    Completes i s (s.pc + len) cost fun t =>
      t.reg8 r = v ∧ RegsExcept s t [r] ∧ t.f = s.f ∧ t.sp = s.sp ∧ MemSame s t := by
  refine completes_of_body hexec hbody ((ControlSame.refl _).setReg8 r v) ⟨by simp, fun q hq => ?_, by simp, by simp,
    fun x => by simp⟩
  have hqr : q ≠ r := List.ne_of_not_mem_cons hq
  simp [State.setReg8_reg8, hqr]

end

/-! ### HL and the high page (R24, R105) -/

@[simp] theorem State.setReg16_hl_sp (s : State) (v : Word) : (s.setReg16 .hl v).sp = s.sp := rfl

/-- Writing HL leaves the registers that are none of its halves. -/
theorem State.setReg16_hl_reg8 (s : State) (v : Word) {q : Reg8} (hh : q ≠ .h) (hl : q ≠ .l) :
    (s.setReg16 .hl v).reg8 q = s.reg8 q := by
  cases q
  case h => exact absurd rfl hh
  case l => exact absurd rfl hl
  all_goals rfl

theorem highPage_eq_ofNat (n : Byte) : highPage n = BitVec.ofNat 16 (0xFF00 + n.toNat) := by
  apply BitVec.eq_of_toNat_eq
  simp [highPage]

/-! ### Loads (R163, R166, R167, R169, R172, R174, R176) -/

section
variable {i : Instr} {s : State} {len : Word} {cost : Nat} {addr : State → Word} {a : Word}

theorem loadForm_of_readByte {r : Reg8}
    (hexec : exec i s = runInstr len cost (fun t => (readByte t (addr t)).map (t.setReg8 r)) s)
    (haddr : addr (s.setPc (s.pc + len)) = a) :
    LoadForm i s a (s.pc + len) cost [r] fun v t => t.reg8 r = v := by
  refine ⟨fun v hv => completes_of_setReg8 hexec ?_, fun hunmapped => faultsWith_of_body hexec ?_⟩
  · simp only [haddr, readByte_setPc, hv, Except.map]
  · simp only [haddr, readByte_unmapped _ hunmapped, Except.map]

theorem loadForm_of_loadAStep {step : Word} (hexec : exec i s = loadAStep step s) :
    LoadForm i s s.hl (s.pc + 1) 2 [.a, .h, .l] fun v t => t.a = v ∧ t.hl = s.hl + step := by
  refine ⟨fun v hv => ?_, fun hunmapped => faultsWith_of_body hexec ?_⟩
  · refine completes_of_body (u := ((s.setPc (s.pc + 1)).setReg8 .a v).setReg16 .hl (s.hl + step)) hexec ?_
      (((ControlSame.refl _).setReg8 _ _).setReg16 _ _)
      ⟨⟨by simp, by simp⟩, fun q hq => ?_, by simp, by simp, fun x => by simp⟩
    · simp only [State.setPc_hl, readByte_setPc, hv, Except.map]
    · obtain ⟨ha, hh, hl⟩ : q ≠ .a ∧ q ≠ .h ∧ q ≠ .l := by simpa using hq
      simp [State.setReg16_hl_reg8 _ _ hh hl, State.setReg8_reg8, ha]
  · simp only [State.setPc_hl, readByte_unmapped _ hunmapped, Except.map]

/-! ### Stores (R161, R162, R164, R165, R170, R171, R173, R175) -/

/-- PC and memory are none of the 8-bit registers. -/
theorem State.setPc_withMem_reg8 (s : State) (pc : Word) (m : Memory) (q : Reg8) :
    State.reg8 { s.setPc pc with mem := m } q = s.reg8 q := by
  cases q <;> rfl

/-- A write to a writable address changes memory only: the byte is stored and every other reads as before (R63). -/
theorem writeByte_storedAt (s : State) (pc : Word) (ha : Writable a) (v : Byte) :
    ∃ m, writeByte (s.setPc pc) a v = .ok { s.setPc pc with mem := m } ∧
      StoredAt s { s.setPc pc with mem := m } a v := by
  obtain ⟨m, hwrite, hread⟩ := writeByte_spec (s.setPc pc) ha v
  refine ⟨m, hwrite, ?_, fun x hx => ?_⟩
  · rw [hread, if_pos rfl]
    rfl
  · rw [hread, if_neg hx, readByte_setPc]

variable {val : State → Byte} {v : Byte}

theorem highStoreForm_of_writeByte
    (hexec : exec i s = runInstr len cost (fun t => writeByte t (addr t) (val t)) s)
    (haddr : addr (s.setPc (s.pc + len)) = a) (hval : val (s.setPc (s.pc + len)) = v) :
    HighStoreForm i s a v (s.pc + len) cost [] fun _ => True := by
  refine ⟨fun hwritable => ?_, fun hunmapped => faultsWith_of_body hexec ?_⟩
  · obtain ⟨m, hwrite, hstored⟩ := writeByte_storedAt s (s.pc + len) hwritable v
    refine completes_of_body hexec (by rw [haddr, hval, hwrite]) (.withMem _ m)
      ⟨?_, fun q _ => ?_, trivial, by simp, by simp⟩
    · simpa only [StoredAt, readByte_complete] using hstored
    · rw [State.complete_reg8, State.setPc_withMem_reg8]
  · rw [haddr, writeByte_unmapped _ hunmapped]

theorem storeForm_of_writeByte
    (hexec : exec i s = runInstr len cost (fun t => writeByte t (addr t) (val t)) s)
    (haddr : addr (s.setPc (s.pc + len)) = a) (hval : val (s.setPc (s.pc + len)) = v) :
    StoreForm i s a v (s.pc + len) cost [] fun _ => True :=
  ⟨highStoreForm_of_writeByte hexec haddr hval, fun hrom =>
    faultsWith_of_body hexec (by rw [haddr, writeByte_rom _ hrom])⟩

theorem storeForm_of_storeAStep {step : Word} (hexec : exec i s = storeAStep step s) :
    StoreForm i s s.hl s.a (s.pc + 1) 2 [.h, .l] fun t => t.hl = s.hl + step := by
  refine ⟨⟨fun hwritable => ?_, fun hunmapped => faultsWith_of_body hexec ?_⟩, fun hrom => faultsWith_of_body hexec ?_⟩
  · obtain ⟨m, hwrite, hstored⟩ := writeByte_storedAt s (s.pc + 1) hwritable s.a
    refine completes_of_body (u := State.setReg16 { s.setPc (s.pc + 1) with mem := m } .hl (s.hl + step)) hexec ?_
      ((ControlSame.withMem _ m).setReg16 _ _) ⟨?_, fun q hq => ?_, by simp, by simp, by simp⟩
    · simp only [State.setPc_hl, State.setPc_a, hwrite, Except.map]
    · simpa only [StoredAt, readByte_complete, readByte_setReg16] using hstored
    · obtain ⟨hh, hl⟩ : q ≠ .h ∧ q ≠ .l := by simpa using hq
      rw [State.complete_reg8, State.setReg16_hl_reg8 _ _ hh hl, State.setPc_withMem_reg8]
  · simp only [State.setPc_hl, writeByte_unmapped _ hunmapped, Except.map]
  · simp only [State.setPc_hl, writeByte_rom _ hrom, Except.map]

end

end Sys2Proof.Machine

/-! ## The obligations -/

namespace Sys2Proof.Proofs

open Sys2Proof.Machine Sys2Proof.Claims

/-- Settles O15: the tag of the byte by register, and a body that writes one register. -/
theorem loadImmediateIntoRegister : Obligations.LoadImmediateIntoRegister := by
  intro r n s
  refine ⟨?_, completes_of_setReg8 (exec_ofLdImm8_reg r n s) rfl⟩
  cases r <;> exact encodedAs_imm8 rfl n

/-- Settles O16: the store is the instruction's only access; (HL+) and (HL-) move HL after it. -/
theorem byteStores : Obligations.ByteStores := by
  intro s
  refine ⟨fun n => ⟨encodedAs_imm8 rfl n, storeForm_of_writeByte (exec_ofLdImm8_atHl n s) rfl rfl⟩,
    ⟨encodedAs_op rfl, storeForm_of_writeByte (exec_ldAtBcA s) rfl rfl⟩,
    ⟨encodedAs_op rfl, storeForm_of_writeByte (exec_ldAtDeA s) rfl rfl⟩,
    ⟨encodedAs_op rfl, storeForm_of_storeAStep (exec_ldAtHlIncA s)⟩,
    ⟨encodedAs_op rfl, ?_⟩,
    fun r => ⟨?_, storeForm_of_writeByte (exec_ofLdToHl r s) (State.setPc_hl _ _) (State.setPc_reg8 _ _ _)⟩,
    fun n => ⟨encodedAs_imm8 rfl n, highStoreForm_of_writeByte (exec_ldhAtA8A n s) (highPage_eq_ofNat n) rfl⟩,
    ⟨encodedAs_op rfl, highStoreForm_of_writeByte (exec_ldAtCA s) (highPage_eq_ofNat s.c) rfl⟩,
    fun nn => ⟨encodedAs_imm16 rfl nn, storeForm_of_writeByte (exec_ldAtA16A nn s) rfl rfl⟩⟩
  · rw [sub_eq_add_neg]
    exact storeForm_of_storeAStep (exec_ldAtHlDecA s)
  · cases r <;> exact encodedAs_op rfl

/-- Settles O17: the load is the instruction's only access, at the address as it was before the register is written. -/
theorem byteLoads : Obligations.ByteLoads := by
  intro s
  refine ⟨⟨encodedAs_op rfl, loadForm_of_readByte (exec_ldAAtBc s) rfl⟩,
    ⟨encodedAs_op rfl, loadForm_of_readByte (exec_ldAAtDe s) rfl⟩,
    ⟨encodedAs_op rfl, loadForm_of_loadAStep (exec_ldAAtHlInc s)⟩,
    ⟨encodedAs_op rfl, ?_⟩,
    fun r => ⟨?_, loadForm_of_readByte (exec_ofLdFromHl r s) rfl⟩,
    fun n => ⟨encodedAs_imm8 rfl n, loadForm_of_readByte (exec_ldhAAtA8 n s) (highPage_eq_ofNat n)⟩,
    ⟨encodedAs_op rfl, loadForm_of_readByte (exec_ldAAtC s) (highPage_eq_ofNat s.c)⟩,
    fun nn => ⟨encodedAs_imm16 rfl nn, loadForm_of_readByte (exec_ldAAtA16 nn s) rfl⟩⟩
  · rw [sub_eq_add_neg]
    exact loadForm_of_loadAStep (exec_ldAAtHlDec s)
  · cases r <;> exact encodedAs_op rfl

/-- Settles O18: the tag of the byte by the two registers, and a body that writes the destination only. -/
theorem registerMove : Obligations.RegisterMove := by
  intro dst src s
  refine ⟨?_, completes_of_setReg8 (exec_ofLdReg dst src s) (by rw [State.setPc_reg8])⟩
  cases dst <;> cases src <;> exact encodedAs_op rfl

end Sys2Proof.Proofs

/-! # Proofs: 16-bit loads and the stack (spec/42_loads16.md) -/

/-! ## Lemmas: what a write of a pair or of SP leaves, and the shapes of a 16-bit load, a push and a pop -/

namespace Sys2Proof.Machine

open Sys2Proof.Claims

/-! ### Writing a pair or SP (R24, R25, R103) -/

/-- Writing a pair leaves the registers that are none of its halves. -/
theorem State.setReg16_reg8 (s : State) {r : Reg16} (v : Word) {q : Reg8} (h : q ∉ halves r) :
    (s.setReg16 r v).reg8 q = s.reg8 q := by
  cases r <;> cases q <;> first | rfl | exact absurd (by decide) h

theorem State.setReg16_sp (s : State) {r : Reg16} (v : Word) (h : r ≠ .sp) : (s.setReg16 r v).sp = s.sp :=
  s.setReg16_reg16_ne r v .sp h.symm

/-- Of the pairs of rp2 only AF is none of rp. -/
theorem State.setStackReg_eq_setReg16 (s : State) {r : StackReg} {p : Reg16} (v : Word)
    (h : (r, p) ∈ [(StackReg.bc, Reg16.bc), (.de, .de), (.hl, .hl)]) : s.setStackReg r v = s.setReg16 p v := by
  simp only [List.mem_cons, Prod.mk.injEq, List.not_mem_nil, or_false] at h
  rcases h with ⟨rfl, rfl⟩ | ⟨rfl, rfl⟩ | ⟨rfl, rfl⟩ <;> rfl

@[simp] theorem State.setStackReg_af_a (s : State) (v : Word) : (s.setStackReg .af v).a = hiByte v := rfl

@[simp] theorem State.setStackReg_af_f (s : State) (v : Word) : (s.setStackReg .af v).f = loByte v &&& 0xF0 := rfl

/-- Writing AF leaves the registers other than A. -/
theorem State.setStackReg_af_reg8 (s : State) (v : Word) {q : Reg8} (h : q ≠ .a) :
    (s.setStackReg .af v).reg8 q = s.reg8 q := by
  cases q <;> first | rfl | exact absurd rfl h

/-- A pair of rp2 reads as what PUSH pushes. -/
theorem State.stackReg_eq_pushedValue (s : State) (r : StackReg) : s.stackReg r = pushedValue s r := by
  cases r <;> rfl

/-- From 0x80 on the sign bit is set, and the upper byte is 0xFF. -/
theorem sext16_eq_signExtend (e : Byte) : sext16 e = e.signExtend 16 := by
  have hlt := e.isLt
  apply BitVec.eq_of_toNat_eq
  rw [BitVec.toNat_signExtend, BitVec.msb_eq_decide, sext16]
  by_cases h : e.toNat < 0x80
  · simp [h]
  · have hge : 0x80 ≤ e.toNat := by omega
    simp [h, hge]
    omega

/-! ### SP, the flags and the pairs of rp2 are none of what After speaks of (R130) -/

theorem ControlSame.setSp {s t : State} (h : ControlSame s t) (v : Word) : ControlSame s (t.setSp v) :=
  h.setReg16 .sp v

theorem ControlSame.setFlags {s t : State} (h : ControlSame s t) (fz fn fh fc : Option Bool) :
    ControlSame s (t.setFlags fz fn fh fc) :=
  ⟨h.pc, h.cycles, h.ime, h.eiPending, h.run, h.fault, h.params⟩

theorem ControlSame.setStackReg {s t : State} (h : ControlSame s t) (r : StackReg) (v : Word) :
    ControlSame s (t.setStackReg r v) := by
  cases r <;> exact ⟨h.pc, h.cycles, h.ime, h.eiPending, h.run, h.fault, h.params⟩

/-! ### Flags (R22, R23) -/

theorem flagsAre_complete {t : State} {z n h c : Bool} (hflags : FlagsAre t z n h c) (arm : Bool) (cost : Nat) :
    FlagsAre (t.complete arm cost) z n h c := by
  simpa only [FlagsAre, State.complete_flagZ, State.complete_flagN, State.complete_flagH, State.complete_flagC,
    State.complete_f] using hflags

/-- The flags in a byte whose bits 3:0 are masked are its bits 7 to 4 (R22, R196). -/
theorem flagsAre_of_masked {t : State} {v : Byte} (h : t.f = v &&& 0xF0) :
    FlagsAre t (v.getLsbD 7) (v.getLsbD 6) (v.getLsbD 5) (v.getLsbD 4) := by
  refine ⟨?_, ?_, ?_, ?_, ?_⟩
  · simp [State.flagZ, h]
  · simp [State.flagN, h]
  · simp [State.flagH, h]
  · simp [State.flagC, h]
  · rw [h, BitVec.and_assoc]
    exact BitVec.and_zero

section
variable {i : Instr} {s : State} {len : Word} {cost : Nat} {body : State → Access State}

/-! ### A body that writes one pair, or SP (R190) -/

theorem completes_of_setReg16 {r : Reg16} {v : Word} (hexec : exec i s = runInstr len cost body s)
    (hbody : body (s.setPc (s.pc + len)) = .ok ((s.setPc (s.pc + len)).setReg16 r v)) :
    Completes i s (s.pc + len) cost fun t =>
      t.reg16 r = v ∧ RegsExcept s t (halves r) ∧ (r ≠ .sp → t.sp = s.sp) ∧ t.f = s.f ∧ MemSame s t := by
  refine completes_of_body hexec hbody ((ControlSame.refl _).setReg16 r v)
    ⟨by simp, fun q hq => ?_, fun hr => ?_, by simp, fun x => by simp⟩
  · simp [State.setReg16_reg8 _ v hq]
  · simp [State.setReg16_sp _ v hr]

/-! ### Pushes (R194) -/

/-- A push to two writable bytes leaves them, SP two lower, and all else but PC as before. -/
theorem push_pushed (s : State) (pc v : Word) (ha : Writable (s.sp - 1)) (hb : Writable (s.sp - 2)) :
    ∃ u, push (s.setPc pc) v = .ok u ∧ ControlSame (s.setPc pc) u ∧ Pushed s u v := by
  obtain ⟨m, hpush, hhi, hlo, hrest⟩ := push_spec (s.setPc pc) ha hb v
  refine ⟨_, hpush, (ControlSame.withMem _ m).setSp _, ⟨hhi, hlo, hrest⟩, rfl, fun q _ => ?_, rfl⟩
  exact (State.setSp_reg8 { s.setPc pc with mem := m } _ q).trans (State.setPc_withMem_reg8 s pc m q)

theorem pushed_complete {u : State} {v : Word} (h : Pushed s u v) (arm : Bool) (cost : Nat) :
    Pushed s (u.complete arm cost) v := by
  simpa only [Pushed, StoredTwo, RegsExcept, readByte_complete, State.complete_sp, State.complete_reg8,
    State.complete_f] using h

/-- An instruction that passes on the faults of a push has the faults of a push. -/
theorem pushFaults_of_push {v : Word} (hexec : exec i s = runInstr len cost body s)
    (herror : ∀ e, push (s.setPc (s.pc + len)) v = .error e → body (s.setPc (s.pc + len)) = .error e) :
    PushFaults i s :=
  ⟨fun hrom => faultsWith_of_body hexec (herror _ (push_first _ fun t => writeByte_rom t hrom _)),
    fun hunmapped => faultsWith_of_body hexec (herror _ (push_first _ fun t => writeByte_unmapped t hunmapped _)),
    fun hw hrom => faultsWith_of_body hexec (herror _ (push_second _ hw fun t => writeByte_rom t hrom _)),
    fun hw hunmapped =>
      faultsWith_of_body hexec (herror _ (push_second _ hw fun t => writeByte_unmapped t hunmapped _))⟩

/-! ### Pops (R195, R196) -/

/-- An instruction that passes on the faults of a pop has the faults of a pop. -/
theorem popFaults_of_pop (hexec : exec i s = runInstr len cost body s)
    (herror : ∀ e, pop (s.setPc (s.pc + len)) = .error e → body (s.setPc (s.pc + len)) = .error e) :
    PopFaults i s := by
  refine ⟨fun hunmapped => ?_, fun hreadable hunmapped => ?_⟩
  · exact faultsWith_of_body hexec (herror _ (pop_first (readByte_unmapped _ hunmapped)))
  · obtain ⟨lo, hlo⟩ := readByte_answers (s.setPc (s.pc + len)) hreadable
    exact faultsWith_of_body hexec (herror _ (pop_second hlo (readByte_unmapped _ hunmapped)))

/-- A pop from two readable bytes writes the pair after SP moved by two. -/
theorem completes_of_popPair {r : StackReg} {lo hi : Byte} {P : State → Prop} (hexec : exec i s = popPair r s)
    (hlo : readByte s s.sp = .ok lo) (hhi : readByte s (s.sp + 1) = .ok hi)
    (hP : P ((((s.setPc (s.pc + 1)).setSp (s.sp + 2)).setStackReg r (pair hi lo)).complete s.eiPending 3)) :
    Completes i s (s.pc + 1) 3 P := by
  have hpop : pop (s.setPc (s.pc + 1)) = .ok (pair hi lo, (s.setPc (s.pc + 1)).setSp (s.sp + 2)) :=
    pop_spec hlo hhi
  refine completes_of_body hexec ?_ (((ControlSame.refl _).setSp _).setStackReg r _) hP
  rw [hpop]
  rfl

end

end Sys2Proof.Machine

/-! ## The obligations -/

namespace Sys2Proof.Proofs

open Sys2Proof.Machine Sys2Proof.Claims

/-- Settles O19: the tag of the byte by pair, and a body that writes one pair or SP. -/
theorem loadImmediateIntoPair : Obligations.LoadImmediateIntoPair := by
  intro r nn s
  refine ⟨?_, completes_of_setReg16 (exec_ofLdImm16 r nn s) rfl⟩
  cases r <;> exact encodedAs_imm16 rfl nn

/-- Settles O20: the instruction is one 16-bit write, and faults as its first byte that fails. -/
theorem storeStackPointer : Obligations.StoreStackPointer := by
  intro nn s
  have hexec := exec_ldAtA16Sp nn s
  refine ⟨encodedAs_imm16 rfl nn, fun ha hb => ?_,
    fun hrom => faultsWith_of_body hexec (writeWord_first _ (writeByte_rom _ hrom _)),
    fun hunmapped => faultsWith_of_body hexec (writeWord_first _ (writeByte_unmapped _ hunmapped _)),
    fun ha hunmapped =>
      faultsWith_of_body hexec (writeWord_second _ ha fun t => writeByte_unmapped t hunmapped _)⟩
  obtain ⟨m, hwrite, hlo, hhi, hrest⟩ := writeWord_spec (s.setPc (s.pc + 3)) ha hb s.sp
  refine completes_of_body hexec hwrite (.withMem _ m) ⟨?_, fun q _ => ?_, by simp, by simp⟩
  · simp only [StoredTwo, readByte_complete]
    exact ⟨hlo, hhi, hrest⟩
  · rw [State.complete_reg8, State.setPc_withMem_reg8]

/-- Settles O21: LD SP,HL writes SP only; LD HL,SP+e8 writes HL and then the flags. -/
theorem stackPointerTransfers : Obligations.StackPointerTransfers := by
  intro s
  refine ⟨⟨encodedAs_op rfl, ?_⟩, fun e => ⟨encodedAs_imm8 rfl e, ?_⟩⟩
  · exact completes_of_body (exec_ldSpHl s) rfl ((ControlSame.refl _).setSp _)
      ⟨by simp, fun q _ => by simp, by simp, fun x => by simp⟩
  · refine completes_of_body (exec_ldHlSpE8 e s) rfl (((ControlSame.refl _).setReg16 _ _).setFlags _ _ _ _)
      ⟨by simp [sext16_eq_signExtend], fun q hq => ?_, by simp, fun x => by simp,
        flagsAre_complete (flagUpdateTouchesOnlyGivenFlags _ (some false) (some false) (some _) (some _)).1 _ _⟩
    simp [State.setReg16_reg8 (r := .hl) _ _ hq]

/-- Settles O22: PUSH is one push of the pair, and has its faults. -/
theorem pushStoresHighByteFirst : Obligations.PushStoresHighByteFirst := by
  intro r s
  have hexec := exec_ofPush r s
  refine ⟨?_, fun ha hb => ?_, pushFaults_of_push hexec fun _ => id⟩
  · cases r <;> exact encodedAs_op rfl
  · obtain ⟨u, hpush, hsame, hpushed⟩ := push_pushed s (s.pc + 1) (pushedValue s r) ha hb
    refine completes_of_body hexec ?_ hsame (pushed_complete hpushed _ _)
    rw [State.setPc_stackReg, State.stackReg_eq_pushedValue, hpush]

/-- Settles O23: POP is one pop and the write of the pair, which for AF masks F; it has the faults of the pop. -/
theorem popLoadsLowByteFirst : Obligations.PopLoadsLowByteFirst := by
  intro s lo hi
  refine ⟨fun hlo hhi => ⟨fun r p hrp => ⟨?_, ?_⟩, encodedAs_op rfl, ?_⟩, fun r => ?_⟩
  · cases r <;> exact encodedAs_op rfl
  · have hset (t : State) : t.setStackReg r (pair hi lo) = t.setReg16 p (pair hi lo) :=
      State.setStackReg_eq_setReg16 t _ hrp
    refine completes_of_popPair (exec_ofPop r s) hlo hhi
      ⟨by simp [hset], by simp, fun q hq => ?_, by simp [hset], fun x => by simp⟩
    simp [hset, State.setReg16_reg8 _ _ hq]
  · refine completes_of_popPair (exec_ofPop .af s) hlo hhi
      ⟨by simp, by simp, flagsAre_of_masked (by simp), by simp, fun q hq => ?_, fun x => by simp⟩
    have hqa : q ≠ .a := List.ne_of_not_mem_cons hq
    simp [State.setStackReg_af_reg8 _ _ hqa]
  · refine popFaults_of_pop (exec_ofPop r s) fun e he => ?_
    simp only [he, Except.map]

end Sys2Proof.Proofs

/-! # Proofs: 8-bit arithmetic and logic (spec/43_alu8.md) -/

/-! ## Lemmas: a flag update after a write, the read-modify-write at HL, and the results as arithmetic -/

namespace Sys2Proof.Machine

open Sys2Proof.Claims

/-! ### What an instruction leaves that ends in a flag update (R22, R23) -/

theorem flagsAre_setFlags (s : State) (z n h c : Option Bool) :
    FlagsAre (s.setFlags z n h c) (z.getD s.flagZ) (n.getD s.flagN) (h.getD s.flagH) (c.getD s.flagC) :=
  (Proofs.flagUpdateTouchesOnlyGivenFlags s z n h c).1

theorem completes_mono {i : Instr} {s : State} {pc : Word} {cost : Nat} {P Q : State → Prop}
    (h : Completes i s pc cost P) (hPQ : ∀ t, P t → Q t) : Completes i s pc cost Q := by
  obtain ⟨t, hexec, hafter, hP⟩ := h
  exact ⟨t, hexec, hafter, hPQ t hP⟩

section
variable {i : Instr} {s : State} {len : Word} {cost : Nat} {body : State → Access State} {fz fn fh fc : Option Bool}
variable (hexec : exec i s = runInstr len cost body s)
include hexec

/-- A body that writes the flags only. -/
theorem completes_of_setFlags (hbody : body (s.setPc (s.pc + len)) = .ok ((s.setPc (s.pc + len)).setFlags fz fn fh fc)) :
    Completes i s (s.pc + len) cost fun t =>
      FlagsAre t (fz.getD s.flagZ) (fn.getD s.flagN) (fh.getD s.flagH) (fc.getD s.flagC) ∧
      RegsExcept s t [] ∧ t.sp = s.sp ∧ MemSame s t :=
  completes_of_body hexec hbody ((ControlSame.refl _).setFlags _ _ _ _)
    ⟨flagsAre_complete (flagsAre_setFlags _ fz fn fh fc) _ _, fun q _ => by simp, by simp, fun x => by simp⟩

/-- A body that writes one register and then the flags. -/
theorem completes_of_setReg8_setFlags {r : Reg8} {v : Byte}
    (hbody : body (s.setPc (s.pc + len)) = .ok (((s.setPc (s.pc + len)).setReg8 r v).setFlags fz fn fh fc)) :
    Completes i s (s.pc + len) cost fun t =>
      t.reg8 r = v ∧ FlagsAre t (fz.getD s.flagZ) (fn.getD s.flagN) (fh.getD s.flagH) (fc.getD s.flagC) ∧
      RegsExcept s t [r] ∧ t.sp = s.sp ∧ MemSame s t := by
  have hflags := flagsAre_setFlags ((s.setPc (s.pc + len)).setReg8 r v) fz fn fh fc
  simp only [State.setReg8_flagZ, State.setReg8_flagN, State.setReg8_flagH, State.setReg8_flagC] at hflags
  refine completes_of_body hexec hbody (((ControlSame.refl _).setReg8 r v).setFlags _ _ _ _)
    ⟨by simp, flagsAre_complete hflags _ _, fun q hq => ?_, by simp, fun x => by simp⟩
  have hqr : q ≠ r := List.ne_of_not_mem_cons hq
  simp [State.setReg8_reg8, hqr]

end

/-! ### Operands, read after PC has moved (R102, R133) -/

theorem readOpnd_setPc_reg (s : State) (pc : Word) (r : Reg8) : readOpnd (s.setPc pc) (.reg r) = .ok (s.reg8 r) :=
  congrArg Except.ok (State.setPc_reg8 s pc r)

theorem readOpnd_setPc_atHl (s : State) (pc : Word) : readOpnd (s.setPc pc) .atHl = readByte s s.hl := rfl

/-! ### The read-modify-write at HL (R102, R211, R213, R327) -/

/-- The byte at HL is read, f of it is written back, and the state after the write is finished. -/
def modifyAtHl (f : Byte → Byte) (finish : Byte → State → State) (t : State) : Access State :=
  (readByte t t.hl).bind fun v => (writeByte t t.hl (f v)).map (finish v)

section
variable {i : Instr} {s : State} {len : Word} {cost : Nat} {f : Byte → Byte}

theorem modifyAtHl_setPc {finish : Byte → State → State} {v : Byte} (hv : readByte s s.hl = .ok v) (pc : Word) :
    modifyAtHl f finish (s.setPc pc) = (writeByte (s.setPc pc) s.hl (f v)).map (finish v) := by
  rw [modifyAtHl, State.setPc_hl, readByte_setPc, hv]
  rfl

/-- A read-modify-write faults on the write in ROM, and on the read where nothing is mapped. -/
theorem modifyFaults_of_modifyAtHl {finish : Byte → State → State}
    (hexec : exec i s = runInstr len cost (modifyAtHl f finish) s) : ModifyFaults i s := by
  refine ⟨fun hrom => faultsWith_of_body hexec ?_, fun hunmapped => faultsWith_of_body hexec ?_⟩
  · obtain ⟨v, hv⟩ := readByte_answers s (a := s.hl) (.inl (by omega))
    rw [modifyAtHl_setPc hv, writeByte_rom _ hrom]
    rfl
  · rw [modifyAtHl, State.setPc_hl, readByte_unmapped _ hunmapped]
    rfl

/-- A read-modify-write that ends in a flag update leaves the byte, the flags, and all else as before. -/
theorem completes_of_modifyAtHl {fz fn fh fc : Byte → Option Bool} {v : Byte}
    (hexec : exec i s = runInstr len cost (modifyAtHl f fun v u => u.setFlags (fz v) (fn v) (fh v) (fc v)) s)
    (hwritable : Writable s.hl) (hv : readByte s s.hl = .ok v) :
    Completes i s (s.pc + len) cost fun t =>
      StoredAt s t s.hl (f v) ∧
      FlagsAre t ((fz v).getD s.flagZ) ((fn v).getD s.flagN) ((fh v).getD s.flagH) ((fc v).getD s.flagC) ∧
      RegsExcept s t [] ∧ t.sp = s.sp := by
  obtain ⟨m, hwrite, hstored⟩ := writeByte_storedAt s (s.pc + len) hwritable (f v)
  refine completes_of_body hexec (by rw [modifyAtHl_setPc hv, hwrite]; rfl)
    ((ControlSame.withMem _ m).setFlags _ _ _ _)
    ⟨?_, flagsAre_complete (flagsAre_setFlags { s.setPc (s.pc + len) with mem := m } _ _ _ _) _ _, fun q _ => ?_, by simp⟩
  · simpa only [StoredAt, readByte_complete, readByte_setFlags] using hstored
  · rw [State.complete_reg8, State.setFlags_reg8, State.setPc_withMem_reg8]

end

theorem exec_incAtHl_eq_modifyAtHl (s : State) :
    exec .incAtHl s = runInstr 1 3 (modifyAtHl (· + 1) fun v u =>
      u.setFlags (some (v + 1 == 0)) (some false) (some (decide (lowNibble v = 0x0F))) none) s := by
  refine (exec_ofInc .atHl s).trans (congrArg (runInstr 1 3 · s) (funext fun t => ?_))
  rw [modifyAtHl, readOpnd]
  cases readByte t t.hl <;> rfl

theorem exec_decAtHl_eq_modifyAtHl (s : State) :
    exec .decAtHl s = runInstr 1 3 (modifyAtHl (· - 1) fun v u =>
      u.setFlags (some (v - 1 == 0)) (some true) (some (decide (lowNibble v = 0x00))) none) s := by
  refine (exec_ofDec .atHl s).trans (congrArg (runInstr 1 3 · s) (funext fun t => ?_))
  rw [modifyAtHl, readOpnd]
  cases readByte t t.hl <;> rfl

/-! ### The accumulator operations as arithmetic (R214 to R222) -/

theorem toNat_eq_bit (c : Bool) : c.toNat = bit c := by
  cases c <;> rfl

/-- Exact sums and differences narrow to those of bytes (R6). -/
theorem ofNat_add_add (a : Byte) (x y : Nat) :
    BitVec.ofNat 8 (a.toNat + x + y) = a + BitVec.ofNat 8 x + BitVec.ofNat 8 y := by
  simp [BitVec.ofNat_add]

theorem ofInt_sub_sub (a : Byte) (x y : Nat) :
    BitVec.ofInt 8 ((a.toNat : Int) - x - y) = a - BitVec.ofNat 8 x - BitVec.ofNat 8 y := by
  apply BitVec.eq_of_toNat_eq
  simp only [BitVec.toNat_ofInt, BitVec.toNat_sub, BitVec.toNat_ofNat]
  omega

theorem add8_eq (a v : Byte) (c : Bool) :
    add8 a v c = ⟨a + v + BitVec.ofNat 8 (bit c), a + v + BitVec.ofNat 8 (bit c) == 0, false,
      decide (15 < a.toNat % 16 + v.toNat % 16 + bit c), decide (255 < a.toNat + v.toNat + bit c)⟩ := by
  simp only [add8, toNat_eq_bit, ofNat_add_add, BitVec.ofNat_toNat, BitVec.setWidth_eq, lowNibble, gt_iff_lt]

theorem sub8_eq (a v : Byte) (c : Bool) :
    sub8 a v c = ⟨a - v - BitVec.ofNat 8 (bit c), a - v - BitVec.ofNat 8 (bit c) == 0, true,
      decide (a.toNat % 16 < v.toNat % 16 + bit c), decide (a.toNat < v.toNat + bit c)⟩ := by
  simp only [sub8, toNat_eq_bit, ofInt_sub_sub, BitVec.ofNat_toNat, BitVec.setWidth_eq, lowNibble]

theorem add8_false (a v : Byte) :
    add8 a v false = ⟨a + v, a + v == 0, false, decide (15 < a.toNat % 16 + v.toNat % 16),
      decide (255 < a.toNat + v.toNat)⟩ := by
  simp [add8_eq, bit]

theorem sub8_false (a v : Byte) :
    sub8 a v false = ⟨a - v, a - v == 0, true, decide (a.toNat % 16 < v.toNat % 16), decide (a.toNat < v.toNat)⟩ := by
  simp [sub8_eq, bit]

/-- The rule of an operation, where A and the flags are its result. -/
theorem aluLeaves_of_alu {op : AluOp} {a v : Byte} {c : Bool} {t : State} (ha : t.a = (alu op a v c).res)
    (hflags : FlagsAre t (alu op a v c).z (alu op a v c).n (alu op a v c).h (alu op a v c).c) :
    AluLeaves op a v c t := by
  cases op with
  | add =>
    rw [alu, add8_false] at ha hflags
    exact ⟨ha, hflags⟩
  | adc =>
    rw [alu, add8_eq] at ha hflags
    exact ⟨ha, hflags⟩
  | sub | cp =>
    rw [alu, sub8_false] at ha hflags
    exact ⟨ha, hflags⟩
  | sbc =>
    rw [alu, sub8_eq] at ha hflags
    exact ⟨ha, hflags⟩
  | and | xor | or => exact ⟨ha, hflags⟩

theorem completes_of_setAlu {i : Instr} {s : State} {len : Word} {cost : Nat} {body : State → Access State} {op : AluOp}
    {v : Byte} (hexec : exec i s = runInstr len cost body s)
    (hbody : body (s.setPc (s.pc + len)) = .ok ((s.setPc (s.pc + len)).setAlu (alu op s.a v s.flagC))) :
    Completes i s (s.pc + len) cost fun t =>
      AluLeaves op s.a v s.flagC t ∧ RegsExcept s t [.a] ∧ t.sp = s.sp ∧ MemSame s t :=
  completes_mono (completes_of_setReg8_setFlags hexec hbody) fun _ ⟨ha, hflags, hframe⟩ =>
    ⟨aluLeaves_of_alu ha hflags, hframe⟩

/-! ### DAA as arithmetic (R223) -/

/-- After an addition: 0x60 leaves the low nibble, so that both corrections go by A as it was. -/
theorem daaResult_add (a : Byte) (h c : Bool) :
    daaResult a false h c =
      (BitVec.ofNat 8 (a.toNat + (if c = true ∨ 0x99 < a.toNat then 0x60 else 0) +
        (if h = true ∨ 9 < a.toNat % 16 then 0x06 else 0)), c || decide (0x99 < a.toNat)) := by
  have hlow (high : Bool) : lowNibble (if high then a + 0x60 else a) = a.toNat % 16 := by
    cases high with
    | false => rfl
    | true =>
      change (a + 96#8).toNat % 16 = a.toNat % 16
      rw [BitVec.toNat_add, BitVec.toNat_ofNat]
      omega
  rw [ofNat_add_add]
  simp only [daaResult, Bool.false_eq_true, if_false, hlow, gt_iff_lt]
  simp only [Bool.or_eq_true, decide_eq_true_eq]
  split <;> split <;> simp

/-- After a subtraction: the corrections go by C and H alone. -/
theorem daaResult_sub (a : Byte) (h c : Bool) :
    daaResult a true h c =
      (BitVec.ofInt 8 ((a.toNat : Int) - (if c = true then 0x60 else 0 : Nat) - (if h = true then 0x06 else 0 : Nat)),
        c) := by
  rw [ofInt_sub_sub]
  cases h <;> cases c <;> simp [daaResult]

/-! ### Packed decimals (R223) -/

theorem packed_toNat {n : Nat} (h : n < 100) : (packed n).toNat = n / 10 * 16 + n % 10 := by
  rw [packed, BitVec.toNat_ofNat]
  omega

theorem packed_eq_zero_iff {n : Nat} (h : n < 100) : packed n = 0 ↔ n = 0 := by
  rw [← BitVec.toNat_inj, packed_toNat h]
  change n / 10 * 16 + n % 10 = 0 ↔ n = 0
  omega

section
variable {x y : Nat} (hx : x < 100) (hy : y < 100)
include hx hy

/-- 0x60 is due exactly when the decimal sum has a third digit. -/
theorem packed_add_high_iff :
    (255 < (packed x).toNat + (packed y).toNat ∨ 0x99 < (packed x + packed y).toNat) ↔ 100 ≤ x + y := by
  rw [BitVec.toNat_add, packed_toNat hx, packed_toNat hy]
  by_cases hcarry : 255 < x / 10 * 16 + x % 10 + (y / 10 * 16 + y % 10)
  · omega
  · rw [Nat.mod_eq_of_lt (b := 2 ^ 8) (by omega)]
    omega

/-- 0x06 is due exactly when the sum of the low digits has a carry. -/
theorem packed_add_low_iff :
    (15 < (packed x).toNat % 16 + (packed y).toNat % 16 ∨ 9 < (packed x + packed y).toNat % 16) ↔
      10 ≤ x % 10 + y % 10 := by
  rw [BitVec.toNat_add, packed_toNat hx, packed_toNat hy]
  omega

/-- The corrected sum is the packed sum of the decimals. -/
theorem packed_add_corrected :
    BitVec.ofNat 8 ((packed x + packed y).toNat + (if 100 ≤ x + y then 0x60 else 0) +
      (if 10 ≤ x % 10 + y % 10 then 0x06 else 0)) = packed ((x + y) % 100) := by
  apply BitVec.eq_of_toNat_eq
  rw [packed_toNat (Nat.mod_lt _ (by decide)), BitVec.toNat_ofNat, BitVec.toNat_add, packed_toNat hx, packed_toNat hy]
  split <;> split <;> omega

end

end Sys2Proof.Machine

/-! ## The obligations -/

namespace Sys2Proof.Proofs

open Sys2Proof.Machine Sys2Proof.Claims

/-- Settles O24: the body writes the register, and then Z, N and H. -/
theorem registerIncrementAndDecrement : Obligations.RegisterIncrementAndDecrement := by
  intro r s
  refine ⟨⟨?_, completes_of_setReg8_setFlags (fz := some _) (fn := some false) (fh := some _) (fc := none)
      (exec_ofInc (.reg r) s) ?_⟩,
    ⟨?_, completes_of_setReg8_setFlags (fz := some _) (fn := some true) (fh := some _) (fc := none)
      (exec_ofDec (.reg r) s) ?_⟩⟩
  · cases r <;> exact encodedAs_op rfl
  · rw [readOpnd_setPc_reg]
    rfl
  · cases r <;> exact encodedAs_op rfl
  · rw [readOpnd_setPc_reg]
    rfl

/-- Settles O25: both are read-modify-writes at HL that end in a flag update. -/
theorem memoryIncrementAndDecrement : Obligations.MemoryIncrementAndDecrement := fun s =>
  ⟨⟨encodedAs_op rfl, modifyFaults_of_modifyAtHl (exec_incAtHl_eq_modifyAtHl s),
      fun _ => completes_of_modifyAtHl (exec_incAtHl_eq_modifyAtHl s)⟩,
    ⟨encodedAs_op rfl, modifyFaults_of_modifyAtHl (exec_decAtHl_eq_modifyAtHl s),
      fun _ => completes_of_modifyAtHl (exec_decAtHl_eq_modifyAtHl s)⟩⟩

/-- Settles O26: the three forms differ in where v comes from. -/
theorem accumulatorOperations : Obligations.AccumulatorOperations := by
  intro op s
  have hmem := exec_ofAlu op .atHl s
  refine ⟨fun r => ⟨?_, completes_of_setAlu (exec_ofAlu op (.reg r) s) ?_⟩,
    ⟨?_, fun v hv => completes_of_setAlu hmem ?_, fun hunmapped => faultsWith_of_body hmem ?_⟩,
    fun n => ⟨?_, completes_of_setAlu (exec_ofAluImm op n s) rfl⟩⟩
  · cases op <;> cases r <;> exact encodedAs_op rfl
  · rw [readOpnd_setPc_reg]
    rfl
  · cases op <;> exact encodedAs_op rfl
  · rw [readOpnd_setPc_atHl, hv]
    rfl
  · rw [readOpnd_setPc_atHl, readByte_unmapped _ hunmapped]
    rfl
  · cases op <;> exact encodedAs_imm8 rfl n

/-- Settles O27, by what was added or subtracted in each of the two cases of N. -/
theorem decimalAdjust : Obligations.DecimalAdjust := by
  intro s
  refine ⟨encodedAs_op rfl, completes_mono (completes_of_setReg8_setFlags (r := .a) (exec_daa s) rfl) ?_⟩
  rintro t ⟨ha, hflags, hframe⟩
  change t.a = (daaResult s.a s.flagN s.flagH s.flagC).1 at ha
  change FlagsAre t ((daaResult s.a s.flagN s.flagH s.flagC).1 == 0) s.flagN false
    (daaResult s.a s.flagN s.flagH s.flagC).2 at hflags
  rw [← ha] at hflags
  refine ⟨fun hn => ?_, fun hn => ?_, hframe⟩
  · rw [hn, daaResult_add] at ha hflags
    exact ⟨_, _, rfl, rfl, ha, hflags⟩
  · rw [hn, daaResult_sub] at ha hflags
    exact ⟨_, _, rfl, rfl, ha, hflags⟩

/-- Settles O28: the sum and its flags by O26, the corrections due to them by O27. -/
theorem addThenAdjustAddsDecimals : Obligations.AddThenAdjustAddsDecimals := by
  intro x y s hx hy hsa
  obtain ⟨-, -, himm⟩ := accumulatorOperations .add s
  obtain ⟨-, t, hadd, -, ⟨hta, -, htn, hth, htc, -⟩, -⟩ := himm (packed y)
  obtain ⟨-, u, hdaa, -, hadjust, -⟩ := decimalAdjust t
  obtain ⟨high, low, hhigh, hlow, hua, huz, -, -, huc, -⟩ := hadjust htn
  rw [hsa] at hta hth htc
  simp only [hta, htc, decide_eq_true_eq, packed_add_high_iff hx hy] at hhigh
  simp only [hta, hth, decide_eq_true_eq, packed_add_low_iff hx hy] at hlow
  have hresult : u.a = packed ((x + y) % 100) := by
    rw [hua, hta, hhigh, hlow, packed_add_corrected hx hy]
  refine ⟨t, u, hadd, hdaa, hresult, ?_, ?_⟩
  · rw [huc, htc, hta, ← Bool.decide_or]
    exact decide_eq_decide.2 (packed_add_high_iff hx hy)
  · rw [huz, hresult, beq_eq_decide]
    exact decide_eq_decide.2 (packed_eq_zero_iff (Nat.mod_lt _ (by decide)))

/-- Settles O29: CPL writes A and then N and H; SCF and CCF write flags only. -/
theorem complementAndCarryFlag : Obligations.ComplementAndCarryFlag := fun s =>
  ⟨⟨encodedAs_op rfl, completes_of_setReg8_setFlags (r := .a) (exec_cpl s) rfl⟩,
    ⟨encodedAs_op rfl, completes_of_setFlags (exec_scf s) rfl⟩,
    ⟨encodedAs_op rfl, completes_of_setFlags (exec_ccf s) rfl⟩⟩

end Sys2Proof.Proofs

/-! # Proofs: 16-bit arithmetic (spec/44_alu16.md) -/

/-! ## Lemmas: a flag update after a write of a pair or of SP -/

namespace Sys2Proof.Machine

open Sys2Proof.Claims

/-- A body that writes one pair, or SP, and then the flags. -/
theorem completes_of_setReg16_setFlags {i : Instr} {s : State} {len : Word} {cost : Nat} {body : State → Access State}
    {r : Reg16} {v : Word} {fz fn fh fc : Option Bool} (hexec : exec i s = runInstr len cost body s)
    (hbody : body (s.setPc (s.pc + len)) = .ok (((s.setPc (s.pc + len)).setReg16 r v).setFlags fz fn fh fc)) :
    Completes i s (s.pc + len) cost fun t =>
      t.reg16 r = v ∧ FlagsAre t (fz.getD s.flagZ) (fn.getD s.flagN) (fh.getD s.flagH) (fc.getD s.flagC) ∧
      RegsExcept s t (halves r) ∧ (r ≠ .sp → t.sp = s.sp) ∧ MemSame s t := by
  have hflags := flagsAre_setFlags ((s.setPc (s.pc + len)).setReg16 r v) fz fn fh fc
  simp only [State.setReg16_flagZ, State.setReg16_flagN, State.setReg16_flagH, State.setReg16_flagC] at hflags
  refine completes_of_body hexec hbody (((ControlSame.refl _).setReg16 r v).setFlags _ _ _ _)
    ⟨by simp, flagsAre_complete hflags _ _, fun q hq => ?_, fun hr => ?_, fun x => by simp⟩
  · simp [State.setReg16_reg8 _ v hq]
  · simp [State.setReg16_sp _ v hr]

end Sys2Proof.Machine

/-! ## The obligations -/

namespace Sys2Proof.Proofs

open Sys2Proof.Machine Sys2Proof.Claims

/-- Settles O30: the body writes the pair, or SP, and nothing else. -/
theorem pairIncrementAndDecrement : Obligations.PairIncrementAndDecrement := by
  intro r s
  refine ⟨⟨?_, completes_of_setReg16 (exec_ofInc16 r s) (by rw [State.setPc_reg16])⟩,
    ⟨?_, completes_of_setReg16 (exec_ofDec16 r s) (by rw [State.setPc_reg16])⟩⟩
  · cases r <;> exact encodedAs_op rfl
  · cases r <;> exact encodedAs_op rfl

/-- Settles O31: the body writes HL, never SP, and then N, H and C. -/
theorem addPairIntoHl : Obligations.AddPairIntoHl := by
  intro r s
  refine ⟨?_, completes_mono (completes_of_setReg16_setFlags (r := .hl) (exec_ofAddHl r s) rfl) ?_⟩
  · cases r <;> exact encodedAs_op rfl
  · rintro t ⟨hhl, hflags, hregs, hsp, hmem⟩
    rw [State.setPc_hl, State.setPc_reg16] at hhl hflags
    exact ⟨hhl, hflags, hregs, hsp (by decide), hmem⟩

/-- Settles O32: the body writes SP, which is no pair of 8-bit registers, and then the four flags. -/
theorem addDisplacementToStackPointer : Obligations.AddDisplacementToStackPointer := by
  intro e s
  refine ⟨encodedAs_imm8 rfl e, completes_mono (completes_of_setReg16_setFlags (r := .sp) (exec_addSpE8 e s) rfl) ?_⟩
  rintro t ⟨hsp, hflags, hregs, -, hmem⟩
  rw [← sext16_eq_signExtend]
  exact ⟨hsp, hflags, hregs, hmem⟩

end Sys2Proof.Proofs

/-! # Proofs: rotates and shifts (spec/45_rotate_shift.md) -/

/-! ## Lemmas: a rotate bit by bit, the encodings of the CB table, and the read-modify-write of a rotate at HL -/

namespace Sys2Proof.Machine

open Sys2Proof.Claims

/-! ### The result and the bit moved out (R250 to R253, R255 to R262) -/

/-- The pseudocode puts the result together from the fields of v; bit by bit that is a rotation or a shift of v. -/
theorem rotate_fst (op : RotOp) (v : Byte) (c : Bool) : (rotate op v c).1 = rotated op v c := by
  apply BitVec.eq_of_getLsbD_eq
  intro i hi
  cases op <;> rw [rotate, rotated, BitVec.getLsbD_append]
  case rl | rr => cases c <;> interval_cases i <;> simp
  case sra => interval_cases i <;> simp [BitVec.getElem_sshiftRight, BitVec.msb_eq_getLsbD_last]
  all_goals interval_cases i <;> simp

theorem rotate_eq (op : RotOp) (v : Byte) (c : Bool) : rotate op v c = (rotated op v c, movedOut op v) := by
  refine Prod.ext (rotate_fst op v c) ?_
  cases op <;> rfl

/-! ### The encodings (R106, R108, R250 to R254) -/

/-- The two bytes of the CB table's cell are the encoding of its instruction. -/
theorem encodedAs_cb {o : Byte} {i : Instr} (h : decodeCb .full o = i) : EncodedAs i [0xCB, o] := by
  subst h
  exact encodedAs_of_decodes (decode_cb .full o []) (decodeCb_ne_prefixCb .full o)

/-- The quadrant x = 0 of the CB table holds the rotates and shifts, by operation and operand. -/
theorem decodeCb_rotField (op : RotOp) (x : Opnd8) :
    decodeCb .full (0b00#2 ++ rotField op ++ opndField x) = .ofRot op x := by
  cases op <;> rcases x with ⟨⟨⟩⟩ | _ <;> rfl

/-! ### The rotates of A (R250 to R253) -/

theorem completes_of_rotateA {i : Instr} {s : State} {op : RotOp} (hexec : exec i s = rotateA op s) :
    Completes i s (s.pc + 1) 1 fun t =>
      t.a = rotated op s.a s.flagC ∧ FlagsAre t false false false (movedOut op s.a) ∧
      RegsExcept s t [.a] ∧ t.sp = s.sp ∧ MemSame s t := by
  refine completes_of_setReg8_setFlags (r := .a) (fz := some false) (fn := some false) (fh := some false) (fc := some _)
    hexec ?_
  rw [rotate_eq]
  rfl

/-! ### The CB rotates on the byte at HL (R254) -/

/-- An instruction is its body on the state with PC moved, and no more of the body. -/
theorem runInstr_congr {len : Word} {cost : Nat} {body body' : State → Access State} {s : State}
    (h : body (s.setPc (s.pc + len)) = body' (s.setPc (s.pc + len))) :
    runInstr len cost body s = runInstr len cost body' s := by
  rw [runInstr, runInstr, h]

/-- C is read before the store, from the flags that s had. -/
theorem exec_ofRot_atHl_eq_modifyAtHl (op : RotOp) (s : State) :
    exec (.ofRot op .atHl) s = runInstr 2 4 (modifyAtHl (rotated op · s.flagC) fun v u =>
      u.setFlags (some (rotated op v s.flagC == 0)) (some false) (some false) (some (movedOut op v))) s := by
  refine (exec_ofRot op .atHl s).trans (runInstr_congr ?_)
  rw [readOpnd_setPc_atHl, modifyAtHl, State.setPc_hl, readByte_setPc]
  cases readByte s s.hl with
  | error e => rfl
  | ok v =>
    simp only [rotate_eq]
    rfl

end Sys2Proof.Machine

/-! ## The obligations -/

namespace Sys2Proof.Proofs

open Sys2Proof.Machine Sys2Proof.Claims

/-- Settles O33: the tag of each byte, and a body that writes A and then the flags. -/
theorem accumulatorRotates : Obligations.AccumulatorRotates := by
  intro s i op o h
  obtain ⟨htag, hexec⟩ : decodeTag .full o = .op i ∧ exec i s = rotateA op s := by
    simp only [List.mem_cons, Prod.mk.injEq, List.not_mem_nil, or_false] at h
    rcases h with ⟨rfl, rfl, rfl⟩ | ⟨rfl, rfl, rfl⟩ | ⟨rfl, rfl, rfl⟩ | ⟨rfl, rfl, rfl⟩ <;> exact ⟨rfl, rfl⟩
  exact ⟨encodedAs_op htag, completes_of_rotateA hexec⟩

/-- Settles O34: on a register the body writes it and then the flags; at HL it is a read-modify-write. -/
theorem tableRotatesAndShifts : Obligations.TableRotatesAndShifts := by
  intro op s
  have hmem := exec_ofRot_atHl_eq_modifyAtHl op s
  refine ⟨fun r => ⟨encodedAs_cb (decodeCb_rotField op (.reg r)), ?_⟩,
    encodedAs_cb (decodeCb_rotField op .atHl), modifyFaults_of_modifyAtHl hmem, fun v => completes_of_modifyAtHl hmem⟩
  refine completes_of_setReg8_setFlags (fz := some _) (fn := some false) (fh := some false) (fc := some _)
    (exec_ofRot op (.reg r) s) ?_
  rw [readOpnd_setPc_reg]
  simp only [rotate_eq]
  rfl

end Sys2Proof.Proofs

/-! # Proofs: single bits (spec/46_bit.md) -/

/-! ## Lemmas: BIT, RES and SET in the CB table, RES and SET as one operation, and a read-modify-write that sets no flag -/

namespace Sys2Proof.Machine

open Sys2Proof.Claims

/-! ### The encodings (R106, R108, R270 to R272) -/

/-- The quadrant x = 1 of the CB table holds BIT, by bit and operand. -/
theorem decodeCb_bitField (b : Idx8) (x : Opnd8) :
    decodeCb .full (0b01#2 ++ idxField b ++ opndField x) = .ofBit b x := by
  cases b <;> rcases x with ⟨⟨⟩⟩ | _ <;> rfl

/-- The quadrants x = 3 and x = 2 of the CB table hold SET and RES, by bit and operand. -/
theorem decodeCb_setResField (set : Bool) (b : Idx8) (x : Opnd8) :
    decodeCb .full ((if set then 0b11#2 else 0b10#2) ++ idxField b ++ opndField x) =
      if set then .ofSet b x else .ofRes b x := by
  cases set <;> cases b <;> rcases x with ⟨⟨⟩⟩ | _ <;> rfl

/-! ### BIT (R270) -/

/-- Whatever BIT's operand, where it can be read BIT is an update of Z, N and H. -/
theorem completes_ofBit {b : Idx8} {x : Opnd8} {s : State} {v : Byte}
    (hv : readOpnd (s.setPc (s.pc + 2)) x = .ok v) :
    Completes (.ofBit b x) s (s.pc + 2) (opndCost x 2 3) fun t =>
      FlagsAre t (!v.getLsbD b.toNat) false true s.flagC ∧ RegsExcept s t [] ∧ t.sp = s.sp ∧ MemSame s t := by
  refine completes_of_setFlags (fz := some _) (fn := some false) (fh := some true) (fc := none) (exec_ofBit b x s) ?_
  rw [hv]
  rfl

/-! ### RES and SET (R271, R272) -/

/-- The operand is read, and written with its bit clear or set, whatever the bit was. -/
theorem exec_ofSet_ofRes (set : Bool) (b : Idx8) (x : Opnd8) (s : State) :
    exec (if set then .ofSet b x else .ofRes b x) s =
      runInstr 2 (opndCost x 2 4) (fun t => (readOpnd t x).bind fun v => writeOpnd t x (withBit set b v)) s := by
  cases set with
  | false =>
    refine (exec_ofRes b x s).trans (runInstr_congr ?_)
    cases readOpnd (s.setPc (s.pc + 2)) x <;> rfl
  | true =>
    refine (exec_ofSet b x s).trans (runInstr_congr ?_)
    cases readOpnd (s.setPc (s.pc + 2)) x <;> rfl

theorem exec_ofSet_ofRes_atHl_eq_modifyAtHl (set : Bool) (b : Idx8) (s : State) :
    exec (if set then .ofSet b .atHl else .ofRes b .atHl) s =
      runInstr 2 4 (modifyAtHl (withBit set b) fun _ u => u) s := by
  refine (exec_ofSet_ofRes set b .atHl s).trans (runInstr_congr ?_)
  exact congrArg (Except.bind _) (funext fun v => (id_map (writeByte _ _ _)).symm)

/-- A read-modify-write that ends with its write is, once the byte is read, a store of the new byte: it leaves the
registers and F as before. -/
theorem completes_of_modifyAtHl_store {i : Instr} {s : State} {len : Word} {cost : Nat} {f : Byte → Byte} {v : Byte}
    (hexec : exec i s = runInstr len cost (modifyAtHl f fun _ u => u) s) (hwritable : Writable s.hl)
    (hv : readByte s s.hl = .ok v) :
    Completes i s (s.pc + len) cost fun t =>
      StoredAt s t s.hl (f v) ∧ RegsExcept s t [] ∧ t.f = s.f ∧ t.sp = s.sp := by
  have hstore : exec i s = runInstr len cost (fun t => writeByte t t.hl (f v)) s := by
    refine hexec.trans (runInstr_congr ?_)
    rw [modifyAtHl_setPc hv]
    exact id_map (writeByte _ _ _)
  obtain ⟨hcompletes, -⟩ := highStoreForm_of_writeByte (addr := State.hl) (val := fun _ => f v) hstore rfl rfl
  exact completes_mono (hcompletes hwritable) fun t ⟨hstored, hregs, _, hframe⟩ => ⟨hstored, hregs, hframe⟩

end Sys2Proof.Machine

/-! ## The obligations -/

namespace Sys2Proof.Proofs

open Sys2Proof.Machine Sys2Proof.Claims

/-- Settles O35: BIT is a flag update wherever its operand can be read, and its only fault is that of the read at HL. -/
theorem bitTest : Obligations.BitTest := by
  intro b s
  refine ⟨fun r => ⟨encodedAs_cb (decodeCb_bitField b (.reg r)), completes_ofBit (readOpnd_setPc_reg s _ r)⟩,
    encodedAs_cb (decodeCb_bitField b .atHl), fun v hv => completes_ofBit ((readOpnd_setPc_atHl s _).trans hv),
    fun hunmapped => faultsWith_of_body (exec_ofBit b .atHl s) ?_⟩
  rw [readOpnd_setPc_atHl, readByte_unmapped _ hunmapped]
  rfl

/-- Settles O36: on a register the body writes that register only; at HL it is a read-modify-write with no flag update. -/
theorem bitResetAndSet : Obligations.BitResetAndSet := by
  intro set b s
  have hmem := exec_ofSet_ofRes_atHl_eq_modifyAtHl set b s
  refine ⟨fun r => ⟨encodedAs_cb (decodeCb_setResField set b (.reg r)), ?_⟩,
    encodedAs_cb (decodeCb_setResField set b .atHl), modifyFaults_of_modifyAtHl hmem,
    fun v => completes_of_modifyAtHl_store hmem⟩
  refine completes_of_setReg8 (exec_ofSet_ofRes set b (.reg r) s) ?_
  rw [readOpnd_setPc_reg]
  rfl

end Sys2Proof.Proofs

/-! # Proofs: jumps, calls and returns (spec/47_jumps.md) -/

/-! ## Lemmas: conditional costs, an instruction that assigns PC, and the shapes of a jump, a call and a return -/

namespace Sys2Proof.Machine

open Sys2Proof.Claims

/-! ### Conditions (R104, R136, R280) -/

theorem condCost_eq (p : Params) (holds : Bool) (taken notTaken : Nat) :
    condCost p holds taken notTaken = if holds ∨ p.condCycles = .perTag then taken else notTaken := by
  unfold condCost
  cases holds <;> cases p.condCycles <;> rfl

section
variable {holds : Bool} {s : State} {len : Word} {taken notTaken : Nat} {body : State → Access State}

/-- An instruction whose condition holds is the unconditional one at the taken cost. -/
theorem runInstr_taken (h : holds = true) :
    runInstr len (condCost s.params holds taken notTaken) (fun t => if holds then body t else .ok t) s =
      runInstr len taken body s := by
  simp [condCost_eq, h]

/-- An instruction whose condition fails only moves PC past its bytes. -/
theorem runInstr_notTaken (h : holds = false) :
    runInstr len (condCost s.params holds taken notTaken) (fun t => if holds then body t else .ok t) s =
      runInstr len (if s.params.condCycles = .perTag then taken else notTaken) .ok s := by
  simp [condCost_eq, h]

end

/-! ### Completing with PC assigned (R26, R130) -/

theorem ControlSame.setPc {s t : State} (h : ControlSame s t) (pc : Word) : ControlSame (s.setPc pc) (t.setPc pc) :=
  ⟨rfl, h.cycles, h.ime, h.eiPending, h.run, h.fault, h.params⟩

section
variable {i : Instr} {s : State} {len pc : Word} {cost : Nat} {body : State → Access State}

/-- A body that ends with an assignment to PC completes there, and not after the instruction. -/
theorem completes_of_body_setPc {u : State} {P : State → Prop} (hexec : exec i s = runInstr len cost body s)
    (hbody : body (s.setPc (s.pc + len)) = .ok (u.setPc pc)) (hsame : ControlSame (s.setPc (s.pc + len)) u)
    (hP : P ((u.setPc pc).complete s.eiPending cost)) : Completes i s pc cost P := by
  refine ⟨_, hexec.trans (runInstr_ok hbody), ?_, hP⟩
  obtain ⟨-, cycles, ime, eiPending, run, fault, params⟩ := hsame
  constructor <;> simp +contextual [cycles, ime, eiPending, run, fault, params]

/-! ### Jumps (R281 to R285) -/

/-- A body that only assigns PC leaves all else as before. -/
theorem completes_of_setPc (hexec : exec i s = runInstr len cost body s)
    (hbody : body (s.setPc (s.pc + len)) = .ok ((s.setPc (s.pc + len)).setPc pc)) :
    Completes i s pc cost fun t => OnlyAdvanced s t :=
  completes_of_body_setPc hexec hbody (.refl _) ⟨fun q _ => by simp, by simp, by simp, fun x => by simp⟩

theorem completes_of_jumpIf {holds : Bool} {taken notTaken : Nat} {target : State → Word}
    (hexec : exec i s = runInstr len (condCost s.params holds taken notTaken)
      (fun t => .ok (if holds then t.setPc (target t) else t)) s) :
    Completes i s (if holds then target (s.setPc (s.pc + len)) else s.pc + len)
      (if holds ∨ s.params.condCycles = .perTag then taken else notTaken) fun t => OnlyAdvanced s t := by
  rw [← condCost_eq]
  refine completes_of_setPc hexec ?_
  cases holds <;> rfl

/-! ### Calls (R286, R287, R291) -/

/-- A call is a push of the address after the instruction, and then the assignment of the target to PC. -/
theorem callForm_of_callTo {target : Word} (hexec : exec i s = runInstr len cost (callTo target) s) :
    CallForm i s target (s.pc + len) cost := by
  refine ⟨fun ha hb => ?_, pushFaults_of_push (v := s.pc + len) hexec fun e he => ?_⟩
  · obtain ⟨u, hpush, hsame, hpushed⟩ := push_pushed s (s.pc + len) (s.pc + len) ha hb
    refine completes_of_body_setPc (u := u) hexec ?_ hsame (pushed_complete ?_ _ _)
    · rw [callTo, State.setPc_pc, hpush]
      rfl
    · simpa only [Pushed, StoredTwo, RegsExcept, readByte_setPc, State.setPc_sp, State.setPc_reg8, State.setPc_f]
        using hpushed
  · rw [callTo, State.setPc_pc, he]
    rfl

/-! ### Returns (R288 to R290) -/

theorem popPc_spec {lo hi : Byte} (hlo : readByte s s.sp = .ok lo) (hhi : readByte s (s.sp + 1) = .ok hi) :
    popPc s = .ok ((s.setSp (s.sp + 2)).setPc (pair hi lo)) := by
  rw [popPc, pop_spec hlo hhi]
  rfl

theorem popPc_error {e : Abort} (h : pop s = .error e) : popPc s = .error e := by
  rw [popPc, h]
  rfl

theorem completes_of_popPc {lo hi : Byte} (hexec : exec i s = runInstr len cost popPc s)
    (hlo : readByte s s.sp = .ok lo) (hhi : readByte s (s.sp + 1) = .ok hi) :
    Completes i s (pair hi lo) cost fun t => t.sp = s.sp + 2 ∧ RegsExcept s t [] ∧ t.f = s.f ∧ MemSame s t :=
  completes_of_body_setPc hexec (popPc_spec hlo hhi) ((ControlSame.refl _).setSp _)
    ⟨by simp, fun q _ => by simp, by simp, fun x => by simp⟩

end

end Sys2Proof.Machine

/-! ## The obligations -/

namespace Sys2Proof.Proofs

open Sys2Proof.Machine Sys2Proof.Claims

/-- Settles O37: each body only assigns PC. -/
theorem unconditionalJumps : Obligations.UnconditionalJumps := by
  intro s
  refine ⟨fun e => ⟨encodedAs_imm8 rfl e, ?_⟩,
    fun nn => ⟨encodedAs_imm16 rfl nn, completes_of_setPc (exec_jpA16 nn s) rfl⟩,
    encodedAs_op rfl, completes_of_setPc (exec_jpHl s) rfl⟩
  rw [← sext16_eq_signExtend]
  exact completes_of_setPc (exec_jrE8 e s) rfl

/-- Settles O38: the body assigns PC when the condition holds and else nothing; the cost is that of R136. -/
theorem conditionalJumps : Obligations.ConditionalJumps := by
  intro cc holds s hholds
  obtain rfl : holds = s.cond cc := hholds.trans (by cases cc <;> rfl)
  refine ⟨fun e => ⟨?_, ?_⟩, fun nn => ⟨?_, completes_of_jumpIf (target := fun _ => nn) (exec_ofJpCc cc nn s)⟩⟩
  · cases cc <;> exact encodedAs_imm8 rfl e
  · rw [← sext16_eq_signExtend]
    exact completes_of_jumpIf (target := fun t => t.pc + sext16 e) (exec_ofJrCc cc e s)
  · cases cc <;> exact encodedAs_imm16 rfl nn

/-- Settles O39: CALL and RST are calls that differ in the target and the cost. -/
theorem callsAndRestarts : Obligations.CallsAndRestarts := by
  intro s
  refine ⟨fun nn => ⟨encodedAs_imm16 rfl nn, callForm_of_callTo (exec_callA16 nn s)⟩,
    fun y => ⟨?_, callForm_of_callTo (exec_ofRst y s)⟩⟩
  cases y <;> exact encodedAs_op rfl

/-- Settles O40: a call where the condition holds, and else a body that does nothing. -/
theorem conditionalCall : Obligations.ConditionalCall := by
  intro cc nn s
  have hexec := exec_ofCallCc cc nn s
  refine ⟨?_, fun hcond => callForm_of_callTo (hexec.trans (runInstr_taken hcond)),
    fun hcond => completes_of_setPc (hexec.trans (runInstr_notTaken hcond)) rfl⟩
  cases cc <;> exact encodedAs_imm16 rfl nn

/-- Settles O41: both pop PC and have the faults of the pop; RETI sets IME before the promotion at the end. -/
theorem returns : Obligations.Returns := by
  intro s lo hi
  refine ⟨encodedAs_op rfl, encodedAs_op rfl, popFaults_of_pop (exec_ret s) fun _ => popPc_error,
    popFaults_of_pop (exec_reti s) fun e he => ?_, fun hlo hhi => ⟨completes_of_popPc (exec_ret s) hlo hhi, ?_⟩⟩
  · rw [popPc_error he]
    rfl
  · have hpop : popPc (s.setPc (s.pc + 1)) = .ok (((s.setPc (s.pc + 1)).setSp (s.sp + 2)).setPc (pair hi lo)) :=
      popPc_spec hlo hhi
    refine ⟨_, (exec_reti s).trans (runInstr_ok (congrArg (Except.map (State.setIme · true)) hpop)), ?_, by simp,
      by simp, by simp, fun q _ => by simp, by simp, fun x => by simp⟩
    constructor <;> simp

/-- Settles O42: a return where the condition holds, and else a body that does nothing. -/
theorem conditionalReturn : Obligations.ConditionalReturn := by
  intro cc s lo hi
  have hexec := exec_ofRetCc cc s
  refine ⟨?_, fun hcond => ?_, fun hcond => completes_of_setPc (hexec.trans (runInstr_notTaken hcond)) rfl⟩
  · cases cc <;> exact encodedAs_op rfl
  · have htaken : exec (.ofRetCc cc) s = runInstr 1 5 popPc s := hexec.trans (runInstr_taken hcond)
    exact ⟨popFaults_of_pop htaken fun _ => popPc_error, completes_of_popPc htaken⟩

end Sys2Proof.Proofs

/-! # Proofs: control, construction and charges (spec/48_control.md, spec/70_reset_and_hazards.md) -/

/-! ## Lemmas: an instruction that assigns only the run state and the interrupt enable, the length of Invalid, and the
state that construction gives -/

namespace Sys2Proof.Machine

open Sys2Proof.Claims

/-! ### STOP, HALT, DI and EI (R28, R29, R141, R301 to R304) -/

/-- A body that assigns IME, EI_PENDING and the run state and nothing else: what it leaves after the promotion of R141. -/
theorem exec_of_controlAssigned {i : Instr} {s : State} {len : Word} {cost : Nat} {body : State → Access State}
    {ime ei pending : Bool} {run : RunState} (hexec : exec i s = runInstr len cost body s)
    (hbody : body (s.setPc (s.pc + len)) = .ok ((((s.setPc (s.pc + len)).setIme ime).setEiPending ei).setRun run))
    (hpending : s.eiPending = false → ei = pending) :
    ∃ t, exec i s = .next t ∧ After s t (s.pc + len) cost ime pending run ∧ t.ime = (ime || (s.eiPending && ei)) ∧
      t.eiPending = (ei && !s.eiPending) ∧ OnlyAdvanced s t := by
  refine ⟨_, hexec.trans (runInstr_ok hbody), ?_, by simp, by simp, fun q _ => by simp, by simp, by simp,
    fun x => by simp⟩
  constructor <;> simp +contextual [hpending]

/-! ### Invalid (R306) -/

/-- The codes of two bytes are those of the CB table. -/
theorem hiByte_eq_cb_iff (code : Word) : hiByte code = 0xCB ↔ 0xCB00 ≤ code.toNat ∧ code.toNat ≤ 0xCBFF := by
  have hcode : code.toNat = (hiByte code).toNat * 256 + (loByte code).toNat := by
    rw [← pair_toNat, pair_hiByte_loByte]
  have hbyte : hiByte code = 0xCB ↔ (hiByte code).toNat = 0xCB := BitVec.toNat_inj.symm
  have hlo : (loByte code).toNat < 256 := (loByte code).isLt
  rw [hbyte]
  omega

theorem add_invalidLength (pc code : Word) :
    pc + invalidLength code = if 0xCB00 ≤ code.toNat ∧ code.toNat ≤ 0xCBFF then pc + 2 else pc + 1 := by
  simp only [invalidLength, hiByte_eq_cb_iff]
  split <;> rfl

/-! ### The escape (R305) -/

theorem completes_congr {i j : Instr} {s : State} {pc : Word} {cost : Nat} {P : State → Prop}
    (h : exec i s = exec j s) (hj : Completes j s pc cost P) : Completes i s pc cost P := by
  obtain ⟨t, hexec, hafter, hP⟩ := hj
  exact ⟨t, h.trans hexec, hafter, hP⟩

theorem exec_prefixCb_of_read {s : State} {op2 : Byte} (h : readByte s (s.pc + 1) = .ok op2) :
    exec .prefixCb s = exec (decodeCb s.params.decodeSet op2) s := by
  rw [exec_prefixCb, h]

theorem exec_prefixCb_of_fault {s : State} {e : Abort} (h : readByte s (s.pc + 1) = .error e) :
    exec .prefixCb s = .next (s.takeFault e) := by
  rw [exec_prefixCb, h]

/-! ### Construction (R38, R350, R351) -/

theorem construct_of_fits (p : Params) {image : List Byte} (h : image.length ≤ romSize) :
    construct p image = .next (State.initial p (imageCells 0 image)) :=
  if_neg (Nat.not_lt.2 h)

theorem construct_of_oversized (p : Params) {image : List Byte} (h : romSize < image.length) :
    construct p image = .fault .configError :=
  if_pos h

/-- Construction answers only for an image that fits. -/
theorem construct_next {p : Params} {image : List Byte} {s : State} (h : construct p image = .next s) :
    image.length ≤ romSize ∧ s = State.initial p (imageCells 0 image) := by
  by_cases hfits : image.length ≤ romSize
  · rw [construct_of_fits p hfits] at h
    exact ⟨hfits, (Host.Outcome.next.inj h).symm⟩
  · rw [construct_of_oversized p (Nat.not_le.1 hfits)] at h
    cases h

/-- The cells of an image lie in the addresses it is loaded at. -/
theorem lt_of_mem_imageCells {a : Nat} {image : List Byte} {cell : Host.Cell} (h : cell ∈ imageCells a image) :
    cell.1 < a + image.length := by
  induction image generalizing a with
  | nil => cases h
  | cons v rest ih =>
    rw [List.length_cons]
    unfold imageCells at h
    split at h
    · have := ih h
      omega
    · rcases List.mem_cons.1 h with rfl | h
      · exact Nat.lt_add_of_pos_right (Nat.succ_pos _)
      · have := ih h
        omega

/-- The table of R38 meets the invariant over any memory that does. -/
theorem State.inv_initial (p : Params) {m : Memory} (hwf : m.wf = true)
    (hplaced : ∀ cell ∈ m, cell.1 < 65536 ∧ hasStorage p (BitVec.ofNat 16 cell.1) = true) : (State.initial p m).Inv := by
  obtain ⟨-, -, -, -, hlow⟩ : FlagsAre (State.initial p m) _ _ _ _ := flagsAre_of_masked (v := p.regInit.f) rfl
  exact ⟨hwf, hplaced, hlow, iff_of_false Bool.false_ne_true nofun⟩

/-- The cells of an image that fits are ROM (R61), which has storage. -/
theorem imageCells_placed (p : Params) {image : List Byte} (h : image.length ≤ romSize) :
    ∀ cell ∈ imageCells 0 image, cell.1 < 65536 ∧ hasStorage p (BitVec.ofNat 16 cell.1) = true := by
  intro cell hcell
  have hlt := lt_of_mem_imageCells hcell
  unfold romSize at h
  have hrom : regionOf (BitVec.ofNat 16 cell.1) = .rom := regionOf_rom (by rw [BitVec.toNat_ofNat]; omega)
  exact ⟨by omega, by rw [hasStorage, hrom]⟩

/-- Construction's memory holds the zero-padded image (R351). -/
theorem mem_read_initial (p : Params) (image : List Byte) (k : Nat) :
    (State.initial p (imageCells 0 image)).mem.read k = image.getD k 0 :=
  (read_imageCells 0 image k).trans (if_pos (Nat.zero_le k))

theorem romHolds_initial (p : Params) (image : List Byte) : RomHolds image (State.initial p (imageCells 0 image)) := by
  intro k hk
  have hmod : (BitVec.ofNat 16 k).toNat = k := by
    rw [BitVec.toNat_ofNat]
    omega
  rw [readByte_low _ (by omega), mem_read_initial, hmod]

/-- Past the image a byte that can be read is 0x00 (R38, R351). -/
theorem readByte_initial_past (p : Params) {image : List Byte} {a : Word} (hpast : image.length ≤ a.toNat)
    (ha : Readable a) : readByte (State.initial p (imageCells 0 image)) a = .ok 0 := by
  have hmapped : regionOf a ≠ .unmapped := by
    rw [ne_eq, regionOf_eq_unmapped_iff]
    omega
  rw [readByte_eq, if_neg hmapped, mem_read_initial, List.getD_eq_default _ _ hpast, ite_self]

end Sys2Proof.Machine

/-! ## The obligations -/

namespace Sys2Proof.Proofs

open Sys2Proof.Machine Sys2Proof.Claims

/-- Settles O46: the escape runs what the next byte selects or takes the fault of its fetch; the witness is RES b,r, as O36
has it. -/
theorem escapeRunsTheTableInstruction : Obligations.EscapeRunsTheTableInstruction := by
  intro s
  refine ⟨fun op2 => exec_prefixCb_of_read, fun hunmapped => exec_prefixCb_of_fault (readByte_unmapped s hunmapped),
    fun op2 b r hds hop2 hread => ?_⟩
  have hdecode : decodeCb s.params.decodeSet op2 = .ofRes b (.reg r) := by
    rw [hds, hop2]
    exact decodeCb_setResField false b (.reg r)
  have hexec : exec .prefixCb s = exec (.ofRes b (.reg r)) s := by
    rw [exec_prefixCb_of_read hread, hdecode]
  obtain ⟨hreg, -⟩ := bitResetAndSet false b s
  obtain ⟨-, hcompletes⟩ := hreg r
  exact completes_congr hexec hcompletes

/-- Settles O43: a body that does nothing. -/
theorem nopOnlyAdvances : Obligations.NopOnlyAdvances := fun s =>
  ⟨encodedAs_op rfl, completes_of_setPc (exec_nop s) rfl⟩

/-- Settles O44: each body only assigns the run state. -/
theorem stopAndHaltEndTheRun : Obligations.StopAndHaltEndTheRun := by
  intro s
  obtain ⟨t, hstop, hafter, -, -, honly⟩ :=
    exec_of_controlAssigned (ime := s.ime) (ei := s.eiPending) (run := .stopped) (exec_stop s) rfl id
  obtain ⟨u, hhalt, hafter', -, -, honly'⟩ :=
    exec_of_controlAssigned (ime := s.ime) (ei := s.eiPending) (run := .halted) (exec_halt s) rfl id
  exact ⟨⟨encodedAs_op rfl, t, hstop, hafter, honly⟩, encodedAs_op rfl, u, hhalt, hafter', honly'⟩

/-- Settles O45: each body only assigns IME and EI_PENDING, and an EI pending before EI is promoted at its end. -/
theorem interruptEnableInstructions : Obligations.InterruptEnableInstructions := by
  intro s
  obtain ⟨t, hdi, hafter, hime, hei, honly⟩ :=
    exec_of_controlAssigned (ime := false) (ei := false) (run := s.run) (exec_di s) rfl fun _ => rfl
  obtain ⟨u, hexec, hafter', hime', hei', honly'⟩ :=
    exec_of_controlAssigned (ime := s.ime) (ei := true) (run := s.run) (exec_ei s) rfl fun _ => rfl
  refine ⟨⟨encodedAs_op rfl, t, hdi, hafter, ?_, hei, honly⟩, encodedAs_op rfl, u, hexec, hafter', ?_, hei', honly'⟩
  · rw [hime, Bool.and_false, Bool.or_false]
  · rw [hime', Bool.and_true]

/-- Settles O47: under FAULT the body raises the gap, under NOP it does nothing; the length is that of the code. -/
theorem invalidFollowsItsPolicy : Obligations.InvalidFollowsItsPolicy := by
  intro code s
  refine ⟨fun hpolicy => faultsWith_of_body (exec_invalid code s) ?_, fun hpolicy => ?_⟩
  · simp only [hpolicy]
  · rw [← add_invalidLength]
    refine completes_of_setPc (exec_invalid code s) ?_
    simp only [hpolicy]
    rfl

/-- Settles O51: the state of R38 over the cells of the image, which read as it is in ROM and as 0x00 past it. -/
theorem constructionLoadsTheImage : Obligations.ConstructionLoadsTheImage := by
  intro p image
  refine ⟨fun hfits => ⟨_, construct_of_fits p hfits, romHolds_initial p image,
    fun a ha hreadable => readByte_initial_past p (by omega) hreadable, ?_⟩, construct_of_oversized p⟩
  exact ⟨rfl, rfl, rfl, rfl, rfl, rfl, rfl, rfl, rfl, rfl, rfl, rfl, rfl, rfl, rfl, rfl⟩

/-- Settles O54: an instruction that completes is charged by the grids and does not end FAULTED; one that faults is charged
nothing. -/
theorem chargesFollowTheCycleGrids : Obligations.ChargesFollowTheCycleGrids := by
  intro i s t hi hrun hexec
  rcases exec_cases hi hexec with ⟨u, heff, rfl⟩ | ⟨e, rfl⟩
  · refine ⟨fun _ => by rw [State.complete_cycles, heff.cycles], fun hfaulted => ?_⟩
    rw [State.complete_run] at hfaulted
    exact absurd hfaulted (heff.run_ne_faulted (by simp [hrun]))
  · exact ⟨fun hok => absurd rfl hok, fun _ => rfl⟩

/-- Settles O49: a constructed state is that of R38 over the cells of an image that fits; reset is that of the empty one. -/
theorem constructionMeetsInvariant : Obligations.ConstructionMeetsInvariant := by
  have hconstructed : ∀ (p : Params) (image : List Byte) (s : State), construct p image = .next s → s.Inv := by
    intro p image s h
    obtain ⟨hfits, rfl⟩ := construct_next h
    exact State.inv_initial p (wf_imageCells image) (imageCells_placed p hfits)
  exact ⟨hconstructed Params.default [] State.reset rfl, hconstructed⟩

end Sys2Proof.Proofs
